-- ==== Sys2Proof/Word.lean ====
section
/-! DEFINITION. The words that travel on the host line and in the round telegram (R1: most significant byte first, two's complement). -/

namespace Sys2Proof

/-- One byte on a wire. -/
abbrev Byte := BitVec 8

/-- A two-byte field on a wire. -/
abbrev Half := BitVec 16

/-- A four-byte field on a wire. -/
abbrev Word := BitVec 32

end Sys2Proof
end

