-- ==== Sys2Proof/Syntax.lean ====
section
/-! DEFINITION. The commands of the TC-664: one constructor of `Instr` per row of spec/opcode_table.json.
Operands of host orders are the body's fields as the frame carries them (R172), before any check. -/

namespace Sys2Proof

/-- Ring A or ring B (R39); the order is that of the word's codes (R172). -/
inductive RingId | a | b
  deriving DecidableEq, Repr

/-- The two ports of a ring (R39). -/
inductive Port | one | two
  deriving DecidableEq, Repr

/-- The hold causes (R101, in the order of section 5.5). -/
inductive HoldCause | wind | link | stationLoss
  deriving DecidableEq, Repr

/-- The trip causes in the order of the table of R106. -/
inductive TripCause
  | skew | overtravel | railBlind | railSplit | brakeTimeout | stationFault | limit | ringDown | estop
  deriving DecidableEq, Repr

/-- Why a frame in reception was abandoned, other than a gap (R169). -/
inductive AbandonReason | length | line
  deriving DecidableEq, Repr

/-- The filtered discrete levels as they stand when a reset ends (R185, R186): ESTOP asserted, RAIN wet. -/
structure Lines where
  estop : Bool
  rain : Bool
  deriving DecidableEq, Repr

/-- The two baud straps, closed or open (R186). -/
structure Straps where
  baud0 : Bool
  baud1 : Bool
  deriving DecidableEq, Repr

/-- Whether the line at each of the module's own ring ports carries a signal at a completion (R56). -/
structure Signals where
  port1 : Bool
  port2 : Bool
  deriving DecidableEq, Repr

/-- The body of an order frame: of the length R172 gives, with its fields, or of another length (R171). -/
inductive Body (α : Type)
  | wrongLength
  | fields (f : α)
  deriving DecidableEq, Repr

/-- CONFIG_CARRIAGE: the carriage and the fields of R8 in their order, each as wide as R172 makes it. -/
structure CarriageBody where
  carriage : Byte
  enabled : Byte
  kind : Byte
  ring : Byte
  railCount : Byte
  travelMin : Word
  travelMax : Word
  refuge : Word
  maxSpeed : Half
  creepSpeed : Byte
  acceleration : Byte
  deceleration : Byte
  trimGain : Half
  trimLimit : Byte
  skewWarn : Half
  skewTrip : Half
  deviationLimit : Half
  slipLimit : Half
  arrivalTolerance : Byte
  standstillBand : Byte
  overtravelMargin : Half
  reversalDwell : Half
  releaseTimeout : Half
  setTimeout : Half
  blindTolerance : Byte
  minStations : Byte
  blockTimeout : Half
  grantTimeout : Half
  priority : Byte
  resumeWind : Byte
  resumeLoss : Byte
  deriving DecidableEq, Repr

/-- CONFIG_STATION: the station and its five configuration fields (R17). -/
structure StationBody where
  station : Byte
  enabled : Byte
  carriage : Byte
  rail : Byte
  node : Byte
  mount : Word
  deriving DecidableEq, Repr

/-- One entry of CONFIG_PLATES (R68): a plate id of 0 empties the index. -/
structure PlateBody where
  id : Half
  position : Word
  mask : Byte
  deriving DecidableEq, Repr

/-- CONFIG_PLATES (R68). The entry count byte is the length of the list. -/
structure PlatesBody where
  carriage : Byte
  start : Byte
  entries : List PlateBody
  deriving DecidableEq, Repr

/-- CONFIG_INTERLOCK: the index and an entry of R131. -/
structure InterlockBody where
  index : Byte
  enabled : Byte
  carriageA : Byte
  directionA : Byte
  limitA : Word
  carriageB : Byte
  directionB : Byte
  thresholdB : Word
  deriving DecidableEq, Repr

/-- CONFIG_WEATHER with a body of the site-part length (R155): the selector and the site settings of R154. -/
structure SiteBody where
  selector : Byte
  enabled : Vector Byte 4
  gain : Vector Half 4
  gust : Vector Half 3
  mean : Vector Half 3
  hysteresis : Byte
  descentDwell : Half
  blindLevel : Byte
  startLevel : Byte
  deriving DecidableEq, Repr

/-- CONFIG_WEATHER with a body of the carriage-part length (R155): three actions and three cap % values. -/
structure ResponseBody where
  selector : Byte
  actions : Vector Byte 3
  caps : Vector Byte 3
  deriving DecidableEq, Repr

/-- CONFIG_NOTICES: the notice settings of R178. -/
structure NoticesBody where
  master : Byte
  classes : Vector Byte 16
  silence : Half
  deriving DecidableEq, Repr

/-- MOVE (R90). -/
structure MoveBody where
  carriage : Byte
  target : Word
  speedLimit : Half
  deriving DecidableEq, Repr

/-- SEEK (R90). -/
structure SeekBody where
  carriage : Byte
  direction : Byte
  distance : Half
  speedLimit : Half
  deriving DecidableEq, Repr

/-- STATION_SERVICE (R33): action 0 RETIRE, 1 RESTORE, any other undefined. -/
structure ServiceBody where
  station : Byte
  action : Byte
  deriving DecidableEq, Repr

/-- RING_WAKE: the ring and the five settings of R40. -/
structure WakeBody where
  ring : Byte
  period : Byte
  nodes : Byte
  sampleLead : Half
  ageLimit : Half
  lossLimit : Byte
  deriving DecidableEq, Repr

/-- QUERY_CARRIAGE (R14, R172). -/
structure CarriageQuery where
  carriage : Byte
  view : Byte
  start : Byte
  deriving DecidableEq, Repr

/-- The commands: the operations and events of spec/opcode_table.json, in the table's order. -/
inductive Instr
  -- orders of the host (R173): the tag and the body
  | presence (tag : Byte) (body : Body Unit)
  | readFlags (tag : Byte) (body : Body (BitVec 96))
  | save (tag : Byte) (body : Body Unit)
  | restart (tag : Byte) (body : Body Unit)
  | configCarriage (tag : Byte) (body : Body CarriageBody)
  | configStation (tag : Byte) (body : Body StationBody)
  | configPlates (tag : Byte) (body : Body PlatesBody)
  | configInterlock (tag : Byte) (body : Body InterlockBody)
  | configWeatherSite (tag : Byte) (body : Body SiteBody)
  | configWeatherCarriage (tag : Byte) (body : Body ResponseBody)
  | configPower (tag : Byte) (body : Body Half)
  | configNotices (tag : Byte) (body : Body NoticesBody)
  | move (tag : Byte) (body : Body MoveBody)
  | seek (tag : Byte) (body : Body SeekBody)
  | stop (tag : Byte) (body : Body Byte)
  | resume (tag : Byte) (body : Body Byte)
  | clear (tag : Byte) (body : Body Byte)
  | retire (tag : Byte) (body : Body ServiceBody)
  | restore (tag : Byte) (body : Body ServiceBody)
  | ringQuiet (tag : Byte) (body : Body Byte)
  | ringWake (tag : Byte) (body : Body WakeBody)
  | queryCarriage (tag : Byte) (body : Body CarriageQuery)
  | queryStation (tag : Byte) (body : Body Byte)
  | queryRing (tag : Byte) (body : Body Byte)
  | queryWeather (tag : Byte) (body : Body Byte)
  | queryPower (tag : Byte) (body : Body Unit)
  -- frames that name no order, and frames that fail
  | unassignedOrderKind (kind tag : Byte)
  | notAnOrder (kind tag : Byte)
  | overrun
  | frameAbandoned (reason : AbandonReason)
  | frameGap
  | frameCheckFailed
  | frameSent
  -- resets and the supply
  | restartReset (lines : Lines)
  | powerOn (lines : Lines) (straps : Straps)
  | resetHeld
  | resetRelease (lines : Lines) (straps : Straps)
  -- discrete lines
  | estopOn
  | estopOff
  | rainOn
  | rainOff
  | anemometerPulse (w : Fin 4)
  -- field rings
  | roundStart (ring : RingId)
  | copyArrival (ring : RingId) (port : Port) (inError : Bool) (bytes : List Byte) (signals : Signals)
  | roundClose (ring : RingId) (signals : Signals)
  -- carriage engines
  | controlStep (carriage : Fin 6)
  | tripCause (carriage : Fin 6) (cause : TripCause)
  | holdCause (carriage : Fin 6) (cause : HoldCause)
  | holdCauseCleared (carriage : Fin 6) (cause : HoldCause)
  -- power arbiter
  | grantAttempt
  | grantTimeout (carriage : Fin 6)
  -- timers of the carriage engines
  | brakeReleaseTimeout (carriage : Fin 6)
  | brakeSetTimeout (carriage : Fin 6)
  | dwellTimerExpiry (carriage : Fin 6)
  | blockTimeout (carriage : Fin 6)
  -- weather, link and store
  | weatherTimerExpiry
  | descent
  | silenceTimerExpiry
  | storeDone (good : Bool)
  | powerLoss
  deriving DecidableEq, Repr

end Sys2Proof
end

