-- ==== Sys2Proof/Decode.lean ====
section
/-! DEFINITION. The command that a word spells by the table's bits: no row of spec/opcode_table.json gives bits
(every row's "fields" is empty and none has a "fixed" pattern), so no word spells a command. -/

namespace Sys2Proof

/-- No row of the table gives bits: no word spells a command. -/
def decodeTableWord (_nbits _w : Nat) : Option Instr := none

end Sys2Proof
end

