-- ==== Sys2Proof/Config.lean ====
section
/-! DEFINITION. What the manual leaves open as a value: one free value (log entry 1). -/

namespace Sys2Proof

/-- The effective target, before its clamp into the travel limits, of a MOVE that is accepted while the carriage
position P is absent and an interlock entry is active: R135 forms it from P and does not say what stands in P's
place. A free value, one for each count of `State.freeCount` (log entry 1). -/
opaque Config.targetWithoutPosition : Nat → Int

end Sys2Proof
end

