-- ==== Sys2Proof/Machine/State.lean ====
section
/-! DEFINITION. Everything the manual gives the module: settings, carriage, station and ring records, arbiter,
weather, link, store, lines, and the queue of waiting commands. Plain data. INVENTORY.md names the rule of every field.
Reset values the manual does not give: log entries 5 and 6. -/

namespace Sys2Proof.Machine

/-- No command of this block stops the machine: the manual answers, discards or trips (R48, R169, R174), and it
names no state in which the module stops working other than the loss of supply, which is a state (R185). -/
inductive Fault
  deriving DecidableEq, Repr

/-- Refusals of the model. -/
inductive Refusal
  /-- Raised by an arm of `exec` that has no meaning yet; safe. No arm of this model raises it. -/
  | notModelled (mnemonic : String)
  deriving DecidableEq, Repr

/-! ## Words of the records -/

/-- A timer: stopped, or running with the time left in microseconds. -/
abbrev Timer := Option Nat

/-- Direction of travel (R3). -/
inductive Direction | outward | inward
  deriving DecidableEq, Repr

/-- Kind of a carriage (R4). -/
inductive CarriageKind | leaf | tray
  deriving DecidableEq, Repr

/-- The two purposes of STOPPING (R98). -/
inductive Purpose | ending | hold
  deriving DecidableEq, Repr

/-- The two stages of STOPPING (R89). -/
inductive Stage | ramp | brake
  deriving DecidableEq, Repr

/-- The carriage states of R14; STOPPING carries its purpose and stage, TRIPPED whether its brakes are confirmed
(R89, R108). -/
inductive CarriageState
  | parked | awaitPower | releasing | moving | blocked
  | stopping (purpose : Purpose) (stage : Stage)
  | held
  | tripped (confirmed : Bool)
  deriving DecidableEq, Repr

/-- Profile phases (R14, R122). -/
inductive Phase | rampUp | cruise | rampDown | creep | dwell
  deriving DecidableEq, Repr

/-- What an order asks (R90). -/
inductive Task
  | move (target : Int)
  | seek (direction : Direction) (distance : Nat)
  deriving DecidableEq, Repr

/-- A current order or the order of a resume record (R90, R102). -/
structure Order where
  tag : Byte
  task : Task
  speedLimit : Nat
  clamped : Bool
  deriving DecidableEq, Repr

/-- A set of hold causes (R14). -/
structure CauseSet where
  wind : Bool := false
  link : Bool := false
  stationLoss : Bool := false
  deriving DecidableEq, Repr

/-- The commands of a slot (R49). -/
inductive Command | idleBraked | release | run | setBrake | quickStop
  deriving DecidableEq, Repr

/-- Reasons for FAULT (R16). -/
inductive FaultReason | identity | load | drive
  deriving DecidableEq, Repr

/-- Exclusions and sideline reasons (R16, R70). -/
inductive Exclusion | implausible | deviation | slip | unreferenced
  deriving DecidableEq, Repr

/-- Station states (section 2.2). -/
inductive StationState
  | unused | offline | identifying | loading | ready | driving
  | sidelined (reason : Exclusion)
  | lost
  | fault (reason : FaultReason)
  | retired
  deriving DecidableEq, Repr

/-- Service request kinds (R61). -/
inductive ServiceKind | identify | load
  deriving DecidableEq, Repr

/-- Wind actions in the order of their severity (R154). -/
inductive WindAction | none | cap | noStart | hold
  deriving DecidableEq, Repr

/-! ## Settings (R183) -/

/-- The configuration part of a carriage record, with the defaults of R8. -/
structure CarriageConfig where
  enabled : Bool := false
  kind : CarriageKind := .leaf
  ring : RingId := .a
  railCount : Nat := 1
  travelMin : Int := 0
  travelMax : Int := 250000
  refuge : Int := 0
  maxSpeed : Nat := 100
  creepSpeed : Nat := 20
  acceleration : Nat := 20
  deceleration : Nat := 20
  trimGain : Nat := 0
  trimLimit : Nat := 0
  skewWarn : Nat := 50
  skewTrip : Nat := 100
  deviationLimit : Nat := 50
  slipLimit : Nat := 200
  arrivalTolerance : Nat := 5
  standstillBand : Nat := 3
  overtravelMargin : Nat := 200
  reversalDwell : Nat := 2000
  releaseTimeout : Nat := 3000
  setTimeout : Nat := 3000
  blindTolerance : Nat := 2
  minStations : Nat := 1
  blockTimeout : Nat := 0
  grantTimeout : Nat := 120
  priority : Nat := 3
  resumeWind : Bool := false
  resumeLoss : Bool := false
  deriving DecidableEq, Repr

/-- The configuration part of a station record (R16). Disabled on a blank store (R38); the other fields: log entry 6. -/
structure StationConfig where
  enabled : Bool := false
  carriage : Fin 6 := 0
  rail : Fin 4 := 0
  node : Fin 40 := 0
  mount : Int := 0
  deriving DecidableEq, Repr

/-- A plate of a plate table (R67). -/
structure Plate where
  id : Half
  position : Int
  mask : BitVec 4
  deriving DecidableEq, Repr

/-- The plate table of one carriage: 128 entries (R67). -/
abbrev PlateTable := Vector (Option Plate) 128

/-- An entry of the interlock table, with the defaults of R131. -/
structure Interlock where
  enabled : Bool := false
  carriageA : Fin 6 := 0
  directionA : Direction := .outward
  limitA : Int := 0
  carriageB : Fin 6 := 1
  directionB : Direction := .outward
  thresholdB : Int := 0
  deriving DecidableEq, Repr

/-- The settings of a ring, with the defaults of R40: T in ms, N, lead and age limit in microseconds. -/
structure RingSettings where
  period : Nat := 40
  nodes : Nat := 40
  sampleLead : Nat := 500
  ageLimit : Nat := 2000
  lossLimit : Nat := 5
  deriving DecidableEq, Repr

/-- The site settings of the Weather Monitor, with the defaults of R154. -/
structure SiteSettings where
  enabled : Vector Bool 4 := #v[false, false, false, false]
  gain : Vector Nat 4 := #v[256, 256, 256, 256]
  gust : Vector Nat 3 := #v[100, 150, 220]
  mean : Vector Nat 3 := #v[70, 110, 160]
  hysteresis : Nat := 20
  descentDwell : Nat := 600
  blindLevel : Fin 4 := 2
  startLevel : Fin 4 := 2
  deriving DecidableEq, Repr

/-- A wind response: action and cap % (R154). -/
structure Response where
  action : WindAction
  cap : Nat
  deriving DecidableEq, Repr

/-- The responses of one carriage at levels 1, 2 and 3 (R154). -/
abbrev Responses := Vector Response 3

/-- The notice settings, with the defaults of R178; the classes in the order of its table. -/
structure NoticeSettings where
  master : Bool := true
  classes : Vector (Fin 3) 16 := #v[2, 2, 1, 2, 1, 1, 1, 2, 1, 2, 1, 1, 2, 1, 1, 1]
  silence : Nat := 2000
  deriving DecidableEq, Repr

/-- The whole of the working settings (R183), with the defaults of each chapter. -/
structure Settings where
  carriages : Vector CarriageConfig 6 := Vector.replicate 6 {}
  stations : Vector StationConfig 64 := Vector.replicate 64 {}
  plates : Vector PlateTable 6 := Vector.replicate 6 (Vector.replicate 128 none)
  interlocks : Vector Interlock 16 := Vector.replicate 16 {}
  ringA : RingSettings := {}
  ringB : RingSettings := {}
  site : SiteSettings := {}
  responses : Vector Responses 6 := Vector.replicate 6 #v[⟨.none, 100⟩, ⟨.cap, 50⟩, ⟨.hold, 100⟩]
  budget : Nat := 0
  notices : NoticeSettings := {}
  deriving DecidableEq, Repr

/-! ## Carriage records (R14, R15) -/

/-- The live fields of one rail (R14, R82). `written` is the setpoint that the engine wrote at its last control step
(R83); an entry to another state between two steps changes `setpoint` alone (R113). -/
structure Rail where
  mean : Option Int := none
  contributors : Nat := 0
  blind : Nat := 0
  split : Bool := false
  setpoint : Int := 0
  written : Int := 0
  deriving DecidableEq, Repr

/-- The two values a carriage publishes for the interlocks (R133). -/
structure Reach where
  p : Option Int := none
  target : Option Int := none
  deriving DecidableEq, Repr

/-- What the engine notes while an order is frozen in STOPPING(HOLD) (R102). -/
structure HoldNotes where
  causes : CauseSet
  position : Option Int
  remaining : Option Nat
  deriving DecidableEq, Repr

/-- The resume record of a HELD carriage (R102). -/
structure ResumeRecord where
  order : Order
  causes : CauseSet
  position : Option Int
  deriving DecidableEq, Repr

/-- The live part of a carriage record, with its values after either reset (R15, R121). -/
structure Carriage where
  state : CarriageState := .parked
  phase : Option Phase := none
  vCmd : Int := 0
  order : Option Order := none
  effectiveTarget : Option Int := none
  position : Option Int := none
  skew : Option Int := none
  rails : Vector Rail 4 := Vector.replicate 4 {}
  holds : CauseSet := {}
  tripCause : Option TripCause := none
  notes : Option HoldNotes := none
  resume : Option ResumeRecord := none
  resumable : Bool := false
  brakesUnconfirmed : Bool := false
  skewWarnArmed : Bool := true
  pinned : Bool := false
  activeEntries : List (Fin 16) := []
  reach : Reach := {}
  lastDirection : Option Direction := none
  dwellRun : Bool := true
  seekStop : Bool := false
  dwellTimer : Timer := none
  blockTimer : Timer := none
  releaseTimer : Timer := none
  setTimer : Timer := none
  travelled : Option Nat := none
  deriving DecidableEq, Repr

/-! ## Station records (R16, R38, R70) -/

/-- A retained reference: a plate id and counts (R16). -/
structure Retained where
  plate : Half
  counts : Int
  deriving DecidableEq, Repr

/-- The identity part of a station record (R16). -/
structure Identity where
  typeCode : Nat
  ratedSpeed : Nat
  ratedPower : Nat
  scale : Nat
  quickStop : Nat
  retained : Option Retained
  deriving DecidableEq, Repr

/-- A parameter set (R23): ceiling in mm/s, loss time in ms, sample lead in microseconds. -/
structure ParamSet where
  ceiling : Nat
  lossTime : Nat
  sampleLead : Nat
  deriving DecidableEq, Repr

/-- The uplink part of a slot (R49). -/
structure Slot where
  status : Byte
  heard : Half
  plate : Half
  counts : Int
  offset : Int
  speed : Int
  load : Nat
  deriving DecidableEq, Repr

/-- The reported part of a station record: the latest filled slot and the round it came in (R16, R76). -/
structure Reported where
  slot : Slot
  round : Half
  deriving DecidableEq, Repr

/-- Reference kinds (R70). -/
inductive RefKind | referenced | seeded | none
  deriving DecidableEq, Repr

/-- A base: a base plate or a seed base (R70). -/
inductive Base
  | plate (id : Half)
  | seed (mm : Int)
  deriving DecidableEq, Repr

/-- The reckoning fields of a station (R70). The last counts, speed and round at reset: log entry 6. -/
structure Reckoning where
  kind : RefKind := .none
  base : Option Base := none
  lastPlate : Option Half := none
  lastCounts : Int := 0
  lastSpeed : Int := 0
  lastRound : Half := 0
  lastPosition : Option Int := none
  cumulative : Int := 0
  exclusion : Option Exclusion := none
  deriving DecidableEq, Repr

/-- The request kept in the station record while its pending mark is set (R61). -/
structure PendingRequest where
  kind : ServiceKind
  data : Option ParamSet
  deriving DecidableEq, Repr

/-- The live part of a station record, with the values of R38 for a station that is not enabled. `lostInTrip` marks a
driven station that has gone LOST since its carriage tripped (R188). -/
structure Station where
  state : StationState := .unused
  identity : Option Identity := none
  params : Option ParamSet := none
  echoed : Bool := false
  inFlight : Option ParamSet := none
  command : Command := .idleBraked
  setpoint : Int := 0
  reported : Option Reported := none
  faultStatus : Bool := false
  misses : Nat := 0
  pendingRequest : Option PendingRequest := none
  limitArmed : Bool := false
  lostInTrip : Bool := false
  reckoning : Reckoning := {}
  deriving DecidableEq, Repr

/-! ## Ring records (R39, R66) -/

/-- Ring states (R43); OPEN is written `opened`. -/
inductive RingState | quiet | closed | opened | down
  deriving DecidableEq, Repr

/-- A request of the service queue (R61). -/
structure Request where
  station : Fin 64
  kind : ServiceKind
  data : Option ParamSet
  attempts : Nat
  deriving DecidableEq, Repr

/-- The request a round carries; `live` is cleared when it leaves the queue during the round (R62). -/
structure Carried where
  station : Fin 64
  node : Fin 40
  kind : ServiceKind
  data : Option ParamSet
  live : Bool
  deriving DecidableEq, Repr

/-- The downlink part of a slot (R49). -/
structure Downlink where
  command : Command
  setpoint : Int
  deriving DecidableEq, Repr

/-- The round in flight: what was sent, and the copies that have returned so far (R39, R45, R47). -/
structure Round where
  sequence : Half
  openMode : Bool
  sendTime : Word
  sampleInstant : Word
  request : Option Carried
  slots : List Downlink
  copy1 : Option (List Byte) := none
  copy2 : Option (List Byte) := none
  deriving DecidableEq, Repr

/-- A ring record, with the values of R66 for a ring without enabled stations. -/
structure Ring where
  state : RingState := .quiet
  sequence : Half := 0
  roundTimer : Timer := none
  closeTimer : Timer := none
  inFlight : Option Round := none
  hops : Option (Nat × Nat) := none
  lastReturn : Option Nat := none
  heal : Nat := 0
  empty : Nat := 0
  countArmed : Bool := true
  filled : Vector Bool 40 := Vector.replicate 40 false
  queue : List Request := []
  pendingList : List (Fin 64) := []
  deriving DecidableEq, Repr

/-! ## Power Arbiter (R143, R153) -/

/-- A grant (R143). -/
structure Grant where
  carriage : Fin 6
  need : Nat
  deriving DecidableEq, Repr

/-- An entry of the grant queue with its running grant timer (R143, R145). -/
structure Waiting where
  carriage : Fin 6
  priority : Nat
  need : Nat
  number : Nat
  timer : Nat
  deriving DecidableEq, Repr

/-- The Arbiter's live fields (R153). The budget is a setting. The entry counter has no bound in R143 and counts without
one (log entry 41); the grants stand in the order in which they were made (log entry 42). -/
structure Arbiter where
  grantedSum : Nat := 0
  grants : List Grant := []
  queue : List Waiting := []
  counter : Nat := 0
  deriving DecidableEq, Repr

/-! ## Weather Monitor (R166) -/

/-- Validity marks (R157). -/
inductive Validity | unknown | valid | invalid
  deriving DecidableEq, Repr

/-- A window entry: a value and its valid mark (R156). -/
structure Sample where
  value : Nat
  valid : Bool
  deriving DecidableEq, Repr

/-- One anemometer: its window, oldest first, its pulse counter and its validity mark (R156, R157). -/
structure Anemometer where
  window : List Sample := []
  count : Nat := 0
  mark : Validity := .unknown
  deriving DecidableEq, Repr

/-- The Weather Monitor's live state (R166). `startWindow` counts the expiries left in the start window (R161). -/
structure Weather where
  level : Fin 4
  target : Option (Fin 4) := none
  gust : Option Nat := none
  mean : Option Nat := none
  anemometers : Vector Anemometer 4 := Vector.replicate 4 {}
  descentTimer : Timer := none
  startWindow : Option Nat := some 60
  weatherTimer : Nat := 1000000
  wet : Bool
  deriving DecidableEq, Repr

/-! ## Events, answers and the Link Unit (R170 to R182) -/

/-- Outcomes of an order, in the order of the table of R99. -/
inductive MoveOutcome
  | arrived | stopped | superseded | timedOut | blocked | tripped | referenced | notFound
  deriving DecidableEq, Repr

/-- Reasons of carriage-state events (R112). -/
inductive CarriageReason
  | move | seek | grant | released | arrived | stop | seekEnd | block | unblock | blockTimeout | grantTimeout
  | brakesSet | clear | resume | autoResume
  | hold (cause : HoldCause)
  | trip
  | causeAdded (cause : HoldCause)
  | causeCleared (cause : HoldCause)
  | resumable | brakesUnconfirmed | brakesConfirmed
  deriving DecidableEq, Repr

/-- Reasons of station-state events that the new state does not carry itself (R36). -/
inductive StationReason | none | misses | service | config | restore | quiet
  deriving DecidableEq, Repr

/-- Reasons of ring-state events (R60). -/
inductive RingReason | wake | quiet | noReturn | healed | empty | returned
  deriving DecidableEq, Repr

/-- Reasons of level-change events (R162). -/
inductive LevelReason | rise | descent | start
  deriving DecidableEq, Repr

/-- What a carriage-state event carries (R112); `entries` are the active entries of a BLOCK (R138). -/
structure CarriageNews where
  carriage : Fin 6
  kind : CarriageKind
  before : CarriageState
  after : CarriageState
  reason : CarriageReason
  holds : CauseSet
  recordCauses : Option CauseSet
  trip : Option TripCause
  position : Option Int
  entries : List (Fin 16)
  deriving DecidableEq, Repr

/-- What a ring-state event carries (R60). -/
structure RingNews where
  ring : RingId
  before : RingState
  after : RingState
  reason : RingReason
  hops : Option (Nat × Nat)
  unreached : Option (Nat × Nat)
  deriving DecidableEq, Repr

/-- The events of the 16 kinds of R178, each with the contents its posting rule lists. -/
inductive Event
  | moveEnd (carriage : Fin 6) (tag : Byte) (outcome : MoveOutcome) (trip : Option TripCause) (position : Option Int)
  | carriageState (news : CarriageNews)
  | stationState (station : Fin 64) (carriage : Fin 6) (before after : StationState) (reason : StationReason)
  | ringState (news : RingNews)
  | ringCount (ring : RingId) (nodes hop : Nat)
  | plateUnknown (carriage : Fin 6) (station : Fin 64) (plate : Half)
  | slip (carriage : Fin 6) (station : Fin 64) (plate : Half) (slip : Int)
  | railSplit (carriage : Fin 6) (rail : Fin 4) (station1 station2 : Fin 64) (position1 position2 : Int)
  | skewWarn (carriage : Fin 6) (skew : Int) (largest smallest : Fin 4)
  | levelChange (before after : Fin 4) (reason : LevelReason) (target : Fin 4) (gust mean : Option Nat)
  | anemometerInvalid (w : Fin 4) (value : Nat) (validCount : Nat)
  | rain (wet : Bool)
  | emergencyStop (asserted : Bool)
  | granted (carriage : Fin 6) (need sum budget : Nat)
  | timedOut (carriage : Fin 6) (need waited place : Nat)
  | storeDone (generation : Option Nat)
  deriving DecidableEq, Repr

/-- Result codes in the order of their numbers (R174). -/
inductive Result
  | ok | okClamped | refusedFormat | refusedRange | refusedState | refusedWind | refusedPower | refusedEstop
  | refusedBusy
  deriving DecidableEq, Repr

/-- The last receive error (R175). -/
inductive ReceiveError | none | gap | length | line | check | kind | overrun
  deriving DecidableEq, Repr

/-- The receiver hunts for a sync byte, or has taken these characters of a frame after its sync byte (R169). -/
inductive Receiver
  | hunting
  | taking (chars : List Byte)
  deriving DecidableEq, Repr

/-- The silence monitor (R181): RUNNING carries the time left. -/
inductive Silence
  | disarmed
  | running (left : Nat)
  | expired
  deriving DecidableEq, Repr

/-- What PRESENCE reports (R175). -/
structure PresenceReport where
  fieldTime : Word
  lastError : ReceiveError
  outstanding : Nat
  urgent : Nat
  urgentLost : Bool
  routine : Nat
  routineLost : Bool
  silence : Silence
  master : Bool
  deriving DecidableEq, Repr

/-- What the SITE view of QUERY_WEATHER reports (R165). -/
structure SiteReport where
  weather : Weather
  settings : SiteSettings
  responses : Vector Responses 6
  deriving DecidableEq, Repr

/-- What QUERY_POWER reports (R152): the record, the budget, and the state of each carriage. -/
structure PowerReport where
  budget : Nat
  arbiter : Arbiter
  states : Vector CarriageState 6
  deriving DecidableEq, Repr

/-- The data of an answer after its result code (R175): the records as they stand at the handling. -/
inductive AnswerData
  | none
  | presence (report : PresenceReport)
  | flags (flags : BitVec 94)
  | carriageLive (config : CarriageConfig) (record : Carriage)
  | carriageConfig (config : CarriageConfig) (entries : List (Fin 16 × Interlock))
  | station (config : StationConfig) (record : Station)
  | ring (settings : RingSettings) (record : Ring)
  | site (report : SiteReport)
  | window (entries : List Sample)
  | power (report : PowerReport)
  deriving DecidableEq, Repr

/-- An answer (R171): the order's kind plus 40 hex, the order's tag, the result code and the data. -/
structure Answer where
  kind : Byte
  tag : Byte
  result : Result
  data : AnswerData
  deriving DecidableEq, Repr

/-- The frame the transmitter is sending: an answer, or a notice with its sequence and lost mark byte (R179, R180). -/
inductive OutFrame
  | answer (a : Answer)
  | notice (sequence : Byte) (lost : Bool) (event : Event)
  deriving DecidableEq, Repr

/-- The Link Unit's live state (R182). -/
structure Link where
  receiver : Receiver := .hunting
  lastError : ReceiveError := .none
  answers : List Answer := []
  sending : Option OutFrame := none
  urgent : List Event := []
  routine : List Event := []
  urgentLost : Bool := false
  routineLost : Bool := false
  sequence : Byte := 0
  flags : BitVec 94 := 0
  silence : Silence := .disarmed
  restartPending : Bool := false
  deriving DecidableEq, Repr

/-! ## Settings Store (R183, R184) -/

/-- A settings image with its generation number and its check (R183). -/
structure Image where
  generation : Nat
  settings : Settings
  check : Half
  deriving DecidableEq, Repr

/-- The two slots of the store (R183). -/
inductive StoreSlot | slot0 | slot1
  deriving DecidableEq, Repr

/-- The store: a slot that holds no whole image is `none`; `write` is the image being written (R184). -/
structure Store where
  slot0 : Option Image := none
  slot1 : Option Image := none
  generation : Nat := 0
  current : StoreSlot := .slot1
  write : Option Image := none
  deriving DecidableEq, Repr

/-! ## Messages between blocks (Introduction, "Event path") -/

/-- One rail of a sample set (R87). -/
structure RailSample where
  mean : Option Int := none
  contributors : Nat := 0
  blind : Nat := 0
  split : Bool := false
  referenced : Bool := false
  deriving DecidableEq, Repr

/-- A sample set (R87). `tripBraked` is what R188 has a TRIPPED carriage's engine find of its stations as they stand
after the round completion that delivered the set. -/
structure SampleSet where
  p : Option Int
  s : Option Int
  rails : Vector RailSample 4
  largestSpeed : Option Nat
  travelled : Option Nat
  trip : Option TripCause
  tripBraked : Bool := false
  deriving DecidableEq, Repr

/-- A message posted by one block and not yet taken by the other (log entry 4). -/
inductive Post
  | sample (carriage : Fin 6) (set : SampleSet)
  | trip (carriage : Fin 6) (cause : TripCause)
  | hold (carriage : Fin 6) (cause : HoldCause)
  | cleared (carriage : Fin 6) (cause : HoldCause)
  | grantAttempt
  deriving DecidableEq, Repr

/-! ## The whole module -/

/-- Whether the module runs, is held by the RESET input, or has no supply (R185). -/
inductive Power | running | held | off
  deriving DecidableEq, Repr

/-- The line speeds (R167). -/
inductive Baud | b57600 | b115200 | b230400
  deriving DecidableEq, Repr

/-- The state of the TC-664, and the queue of the commands that wait. -/
structure State where
  pending : List Instr
  power : Power
  settings : Settings
  carriages : Vector Carriage 6
  stations : Vector Station 64
  ringA : Ring
  ringB : Ring
  arbiter : Arbiter
  weather : Weather
  link : Link
  store : Store
  lines : Lines
  baud : Baud
  ready : Bool
  motion : Bool
  fieldTime : Word
  posts : List Post
  freeCount : Nat
  deriving DecidableEq, Repr

/-- The index of the global flag STORE_BLANK among the event flags (R176). -/
def storeBlankIndex : Nat := 78 + 13

/-- The module at the end of a cold start on a blank store, with ESTOP released, the rain line dry and both baud
straps open (log entries 5 and 6): R15, R38, R66, R153, R166, R182, R183, R187. -/
def State.reset : State where
  pending := []
  power := .running
  settings := {}
  carriages := Vector.replicate 6 {}
  stations := Vector.replicate 64 {}
  ringA := {}
  ringB := {}
  arbiter := {}
  weather := { level := 2, wet := false }
  link := { flags := BitVec.ofNat 94 (2 ^ storeBlankIndex) }
  store := {}
  lines := ⟨false, false⟩
  baud := .b57600
  ready := true
  motion := false
  fieldTime := 0
  posts := []
  freeCount := 0

end Sys2Proof.Machine
end

