-- ==== Sys2Proof/Machine/Operands.lean ====
section
/-! DEFINITION. The operand forms: rounding and the integer square root (R1, R118), the words and numbers of order
bodies with their ranges (R8, R16, R40, R67, R131, R154, R172, R178), and the fields of a returned telegram (R49). -/

namespace Sys2Proof.Machine

/-! ## Rounding (R1) -/

/-- R1 "rounded" of a / b for b > 0: nearest integer, halves away from zero. -/
def rounded (a : Int) (b : Nat) : Int :=
  let q : Nat := (2 * a.natAbs + b) / (2 * b)
  if a < 0 then -(q : Int) else q

/-- One more bit pair of the integer square root; `fuel` bounds the number of bits of the root. -/
def isqrtAux : Nat → Nat → Nat
  | 0, _ => 0
  | fuel + 1, n =>
    let r := 2 * isqrtAux fuel (n / 4)
    if (r + 1) * (r + 1) ≤ n then r + 1 else r

/-- R118: the largest integer whose square does not exceed n (n below 4^32; 2 × 100 × 350,000 is the largest needed). -/
def isqrt (n : Nat) : Nat := isqrtAux 32 n

/-- R2: a position clamped to an interval. -/
def clampInt (lo hi x : Int) : Int := if x < lo then lo else if hi < x then hi else x

/-- R2: the lower end of the coordinate range. -/
def coordinateMin : Int := -50000

/-- R2: the upper end of the coordinate range. -/
def coordinateMax : Int := 300000

/-- R2: within the coordinate range. -/
def inCoordinates (x : Int) : Bool := coordinateMin ≤ x && x ≤ coordinateMax

/-- R3: the direction of a signed speed or difference, absent for 0. -/
def directionOf (x : Int) : Option Direction :=
  if 0 < x then some .outward else if x < 0 then some .inward else none

/-- R3: a magnitude taken in a direction. -/
def Direction.signed (d : Direction) (n : Nat) : Int :=
  match d with
  | .outward => n
  | .inward => -(n : Int)

/-- R3: the opposite direction. -/
def Direction.opposite : Direction → Direction
  | .outward => .inward
  | .inward => .outward

/-- R3: x lies beyond the threshold t in direction d (strictly). -/
def beyond (d : Direction) (x t : Int) : Bool :=
  match d with
  | .outward => t < x
  | .inward => x < t

/-- Milliseconds as microseconds. -/
def msToUs (n : Nat) : Nat := n * 1000

/-- Seconds as microseconds. -/
def sToUs (n : Nat) : Nat := n * 1000000

/-! ## Words and numbers of order bodies (R172) -/

/-- off 0, on 1. -/
def onOff (b : Byte) : Option Bool :=
  if b = 0 then some false else if b = 1 then some true else none

/-- LEAF 0, TRAY 1. -/
def kindWord (b : Byte) : Option CarriageKind :=
  if b = 0 then some .leaf else if b = 1 then some .tray else none

/-- Ring A 0, ring B 1. -/
def ringWord (b : Byte) : Option RingId :=
  if b = 0 then some .a else if b = 1 then some .b else none

/-- OUTWARD 0, INWARD 1. -/
def directionWord (b : Byte) : Option Direction :=
  if b = 0 then some .outward else if b = 1 then some .inward else none

/-- NONE 0, CAP 1, NO_START 2, HOLD 3. -/
def actionWord (b : Byte) : Option WindAction :=
  if b = 0 then some .none else if b = 1 then some .cap else if b = 2 then some .noStart
  else if b = 3 then some .hold else none

/-- A number below n, from a byte. -/
def finByte (n : Nat) (b : Byte) : Option (Fin n) :=
  if h : b.toNat < n then some ⟨b.toNat, h⟩ else none

/-- An unsigned field within lo to hi. -/
def natIn (lo hi : Nat) {w : Nat} (x : BitVec w) : Option Nat :=
  if lo ≤ x.toNat && x.toNat ≤ hi then some x.toNat else none

/-- A signed field within lo to hi. -/
def intIn (lo hi : Int) {w : Nat} (x : BitVec w) : Option Int :=
  if lo ≤ x.toInt && x.toInt ≤ hi then some x.toInt else none

/-- R9 step 4: the record when every field lies in its range of R8; the refuge is left to step 5. -/
def carriageConfigOf (b : CarriageBody) : Option CarriageConfig := do
  let enabled ← onOff b.enabled
  let kind ← kindWord b.kind
  let ring ← ringWord b.ring
  let railCount ← natIn 1 4 b.railCount
  let travelMin ← natIn 0 250000 b.travelMin
  let travelMax ← natIn 0 250000 b.travelMax
  let maxSpeed ← natIn 1 600 b.maxSpeed
  let creepSpeed ← natIn 1 50 b.creepSpeed
  let acceleration ← natIn 1 100 b.acceleration
  let deceleration ← natIn 1 100 b.deceleration
  let trimGain ← natIn 0 2000 b.trimGain
  let trimLimit ← natIn 0 100 b.trimLimit
  let skewWarn ← natIn 1 500 b.skewWarn
  let skewTrip ← natIn 1 1000 b.skewTrip
  let deviationLimit ← natIn 1 500 b.deviationLimit
  let slipLimit ← natIn 1 2000 b.slipLimit
  let arrivalTolerance ← natIn 1 100 b.arrivalTolerance
  let standstillBand ← natIn 1 20 b.standstillBand
  let overtravelMargin ← natIn 0 5000 b.overtravelMargin
  let reversalDwell ← natIn 0 30000 b.reversalDwell
  let releaseTimeout ← natIn 100 10000 b.releaseTimeout
  let setTimeout ← natIn 100 10000 b.setTimeout
  let blindTolerance ← natIn 0 5 b.blindTolerance
  let minStations ← natIn 1 6 b.minStations
  let blockTimeout ← natIn 0 3600 b.blockTimeout
  let grantTimeout ← natIn 1 600 b.grantTimeout
  let priority ← natIn 0 3 b.priority
  let resumeWind ← onOff b.resumeWind
  let resumeLoss ← onOff b.resumeLoss
  some { enabled, kind, ring, railCount, travelMin := travelMin, travelMax := travelMax,
         refuge := b.refuge.toNat, maxSpeed, creepSpeed, acceleration, deceleration, trimGain, trimLimit,
         skewWarn, skewTrip, deviationLimit, slipLimit, arrivalTolerance, standstillBand, overtravelMargin,
         reversalDwell, releaseTimeout, setTimeout, blindTolerance, minStations, blockTimeout, grantTimeout,
         priority, resumeWind, resumeLoss }

/-- R9 step 5: the fields agree with each other. -/
def CarriageConfig.agrees (c : CarriageConfig) : Bool :=
  c.travelMin < c.travelMax && c.travelMin ≤ c.refuge && c.refuge ≤ c.travelMax &&
  c.skewWarn < c.skewTrip && c.creepSpeed ≤ c.maxSpeed

/-- R17 step 3: the configuration when every field lies in its range of R16. -/
def stationConfigOf (b : StationBody) : Option StationConfig := do
  let enabled ← onOff b.enabled
  let carriage ← finByte 6 b.carriage
  let rail ← finByte 4 b.rail
  let node ← finByte 40 b.node
  let mount ← intIn (-50000) 50000 b.mount
  some { enabled, carriage, rail, node, mount }

/-- R68 step 5: an entry that empties its index, or a plate in range; `none` when out of range. -/
def plateEntryOf (b : PlateBody) : Option (Option Plate) :=
  if b.id = 0 then some none
  else if inCoordinates b.position.toInt && b.mask ≠ 0 && b.mask.toNat < 16 then
    some (some ⟨b.id, b.position.toInt, b.mask.setWidth 4⟩)
  else none

/-- R132 step 3: the entry when every field lies in its range of R131. -/
def interlockOf (b : InterlockBody) : Option Interlock := do
  let enabled ← onOff b.enabled
  let carriageA ← finByte 6 b.carriageA
  let directionA ← directionWord b.directionA
  let limitA ← intIn coordinateMin coordinateMax b.limitA
  let carriageB ← finByte 6 b.carriageB
  let directionB ← directionWord b.directionB
  let thresholdB ← intIn coordinateMin coordinateMax b.thresholdB
  some { enabled, carriageA, directionA, limitA, carriageB, directionB, thresholdB }

/-- R155 step 3: the site settings when every field lies in its range of R154. -/
def siteSettingsOf (b : SiteBody) : Option SiteSettings := do
  let e0 ← onOff b.enabled[0]
  let e1 ← onOff b.enabled[1]
  let e2 ← onOff b.enabled[2]
  let e3 ← onOff b.enabled[3]
  let g0 ← natIn 1 4095 b.gain[0]
  let g1 ← natIn 1 4095 b.gain[1]
  let g2 ← natIn 1 4095 b.gain[2]
  let g3 ← natIn 1 4095 b.gain[3]
  let u1 ← natIn 1 750 b.gust[0]
  let u2 ← natIn 1 750 b.gust[1]
  let u3 ← natIn 1 750 b.gust[2]
  let a1 ← natIn 1 750 b.mean[0]
  let a2 ← natIn 1 750 b.mean[1]
  let a3 ← natIn 1 750 b.mean[2]
  let hysteresis ← natIn 0 100 b.hysteresis
  let descentDwell ← natIn 60 3600 b.descentDwell
  let blindLevel ← finByte 4 b.blindLevel
  let startLevel ← finByte 4 b.startLevel
  some { enabled := #v[e0, e1, e2, e3], gain := #v[g0, g1, g2, g3], gust := #v[u1, u2, u3],
         mean := #v[a1, a2, a3], hysteresis, descentDwell, blindLevel, startLevel }

/-- R155 step 4, SITE part: the thresholds rise strictly and H lies below G_1 and A_1. -/
def SiteSettings.agrees (s : SiteSettings) : Bool :=
  s.gust[0] < s.gust[1] && s.gust[1] < s.gust[2] && s.mean[0] < s.mean[1] && s.mean[1] < s.mean[2] &&
  s.hysteresis < s.gust[0] && s.hysteresis < s.mean[0]

/-- The rank of an action in severity (R154), which is also its word code (R172). -/
def WindAction.severity : WindAction → Nat
  | .none => 0
  | .cap => 1
  | .noStart => 2
  | .hold => 3

/-- R155 step 3: the responses when every field lies in its range of R154. -/
def responsesOf (b : ResponseBody) : Option Responses := do
  let a1 ← actionWord b.actions[0]
  let a2 ← actionWord b.actions[1]
  let a3 ← actionWord b.actions[2]
  let c1 ← natIn 1 100 b.caps[0]
  let c2 ← natIn 1 100 b.caps[1]
  let c3 ← natIn 1 100 b.caps[2]
  some #v[⟨a1, c1⟩, ⟨a2, c2⟩, ⟨a3, c3⟩]

/-- R155 step 4, carriage part: the severity does not fall from one level to the next. -/
def responsesAgree (r : Responses) : Bool :=
  r[0].action.severity ≤ r[1].action.severity && r[1].action.severity ≤ r[2].action.severity

/-- The first `n` notice classes when each is 0 to 2 (R178). -/
def noticeClasses (v : Vector Byte 16) : Option (Vector (Fin 3) 16) :=
  if v.toList.all (fun b => b.toNat < 3) then
    some (Vector.ofFn fun i => Fin.ofNat 3 (v[i].toNat))
  else none

/-- R178 check 2: the notice settings when every field is defined and in range. -/
def noticeSettingsOf (b : NoticesBody) : Option NoticeSettings := do
  let master ← onOff b.master
  let classes ← noticeClasses b.classes
  let silence ← if b.silence = 0 then some 0 else natIn 100 10000 b.silence
  some { master, classes, silence }

/-- R41 step 3: the ring settings when every field lies in its range of R40. -/
def ringSettingsOf (b : WakeBody) : Option RingSettings := do
  let period ← if b.period = 10 || b.period = 20 || b.period = 40 || b.period = 80 then some b.period.toNat else none
  let nodes ← natIn 1 40 b.nodes
  let sampleLead ← natIn 200 5000 b.sampleLead
  let ageLimit ← natIn 0 5000 b.ageLimit
  let lossLimit ← natIn 1 20 b.lossLimit
  some { period, nodes, sampleLead, ageLimit, lossLimit }

/-! ## A returned telegram (R49) -/

/-- The byte at an offset of a telegram. -/
def byteAt (bytes : List Byte) (i : Nat) : Byte := bytes.getD i 0

/-- Two bytes at an offset, most significant first. -/
def halfAt (bytes : List Byte) (i : Nat) : Half := byteAt bytes i ++ byteAt bytes (i + 1)

/-- Three bytes at an offset, most significant first. -/
def tripleAt (bytes : List Byte) (i : Nat) : BitVec 24 :=
  byteAt bytes i ++ byteAt bytes (i + 1) ++ byteAt bytes (i + 2)

/-- The ring id byte of a ring (R49). -/
def ringCode : RingId → Byte
  | .a => 1
  | .b => 2

/-- The length of a telegram of N slots in bytes (R49). -/
def telegramLength (nodes : Nat) : Nat := 42 + 16 * nodes

/-- The hop count field of a copy (R49). -/
def copyHops (bytes : List Byte) : Nat := (byteAt bytes 12).toNat

/-- The uplink part of the slot of node n in a copy (R49). -/
def copySlot (bytes : List Byte) (n : Nat) : Slot :=
  let o := 42 + 16 * n
  { status := byteAt bytes (o + 3)
    heard := halfAt bytes (o + 4)
    plate := halfAt bytes (o + 6)
    counts := (tripleAt bytes (o + 8)).toInt
    offset := (halfAt bytes (o + 11)).toInt
    speed := (halfAt bytes (o + 13)).toInt
    load := (byteAt bytes (o + 15)).toNat }

/-- R51: a slot taken from a copy is filled when its status byte is not zero, whichever of its bits are set (log entry
33). -/
def filledSlot (bytes : List Byte) (n : Nat) : Option Slot :=
  let slot := copySlot bytes n
  if slot.status = 0 then none else some slot

/-- Bit 0 of the status byte (R49). -/
def Slot.present (s : Slot) : Bool := s.status.getLsbD 0
/-- Bit 1 of the status byte (R49). -/
def Slot.brakeSet (s : Slot) : Bool := s.status.getLsbD 1
/-- Bit 2 of the status byte (R49). -/
def Slot.brakeReleased (s : Slot) : Bool := s.status.getLsbD 2
/-- Bit 3 of the status byte (R49). -/
def Slot.driveFault (s : Slot) : Bool := s.status.getLsbD 3
/-- Bit 4 of the status byte (R49). -/
def Slot.limitReached (s : Slot) : Bool := s.status.getLsbD 4
/-- Bit 5 of the status byte (R49). -/
def Slot.linkUp (s : Slot) : Bool := s.status.getLsbD 5

/-- The service answer field of a copy (R49). -/
structure ServiceAnswer where
  node : Nat
  kind : Nat
  status : Nat
  data : List Byte
  deriving DecidableEq, Repr

/-- The service answer of a copy (R49); a status of 0 is no answer. -/
def copyAnswer (bytes : List Byte) : Option ServiceAnswer :=
  if byteAt bytes 29 = 0 then none
  else some { node := (byteAt bytes 27).toNat, kind := (byteAt bytes 28).toNat,
              status := (byteAt bytes 29).toNat, data := (bytes.drop 30).take 12 }

/-- The request kind codes of the telegram (R49). -/
def ServiceKind.code : ServiceKind → Nat
  | .identify => 1
  | .load => 2

/-- The identity an IDENTIFY answer carries (R22, R49): the retained reference is kept when its valid mark (status 2)
is set and its plate id is not 0. -/
def ServiceAnswer.identity (a : ServiceAnswer) : Identity :=
  { typeCode := (byteAt a.data 0).toNat
    ratedSpeed := (halfAt a.data 1).toNat
    ratedPower := (byteAt a.data 3).toNat
    scale := (halfAt a.data 4).toNat
    quickStop := (byteAt a.data 6).toNat
    retained := if a.status = 2 && halfAt a.data 7 ≠ 0 then some ⟨halfAt a.data 7, (tripleAt a.data 9).toInt⟩ else none }

/-- The echo a LOAD answer carries (R23, R49). -/
def ServiceAnswer.echo (a : ServiceAnswer) : ParamSet :=
  { ceiling := (halfAt a.data 0).toNat, lossTime := (halfAt a.data 2).toNat, sampleLead := (halfAt a.data 4).toNat }

end Sys2Proof.Machine
end

