-- ==== Sys2Proof/Machine/Flags.lean ====
section
/-! DEFINITION. The event flags (R176), what posting an event does in the Link Unit (R178, R179), the transmitter's
choice (R180), the two output lines (R187), and the frame every event of the running module shares. -/

namespace Sys2Proof.Machine

/-! ## Event flags (R176) -/

/-- The flags of a carriage, in the order of R176. -/
inductive CarriageFlag
  | arrived | ended | held | resumable | tripped | skewWarn | blocked | slip | plateUnknown | stationLost
  | stationFault | railSplit | brakesUnconfirmed
  deriving DecidableEq, Repr

/-- j of R176. -/
def CarriageFlag.number : CarriageFlag → Nat
  | .arrived => 0
  | .ended => 1
  | .held => 2
  | .resumable => 3
  | .tripped => 4
  | .skewWarn => 5
  | .blocked => 6
  | .slip => 7
  | .plateUnknown => 8
  | .stationLost => 9
  | .stationFault => 10
  | .railSplit => 11
  | .brakesUnconfirmed => 12

/-- The global flags, in the order of R176. -/
inductive GlobalFlag
  | rainOn | rainOff | levelUp | levelDown | anemometerInvalid | ringAChange | ringBChange | ringCount | estopOn
  | estopOff | linkError | linkSilent | noticeLost | storeBlank | granted | timedOut
  deriving DecidableEq, Repr

/-- k of R176. -/
def GlobalFlag.number : GlobalFlag → Nat
  | .rainOn => 0
  | .rainOff => 1
  | .levelUp => 2
  | .levelDown => 3
  | .anemometerInvalid => 4
  | .ringAChange => 5
  | .ringBChange => 6
  | .ringCount => 7
  | .estopOn => 8
  | .estopOff => 9
  | .linkError => 10
  | .linkSilent => 11
  | .noticeLost => 12
  | .storeBlank => 13
  | .granted => 14
  | .timedOut => 15

/-- An event flag. -/
inductive Flag
  | ofCarriage (c : Fin 6) (f : CarriageFlag)
  | ofModule (f : GlobalFlag)
  deriving DecidableEq, Repr

/-- The index of a flag (R176): 13 × c + j, or 78 + k. -/
def Flag.index : Flag → Nat
  | .ofCarriage c f => 13 * c.val + f.number
  | .ofModule f => 78 + f.number

/-- A flag set; one already set stays set (R176). -/
def setFlag (flags : BitVec 94) (f : Flag) : BitVec 94 := flags ||| BitVec.ofNat 94 (2 ^ f.index)

/-- Whether a flag is set. -/
def Link.flag (l : Link) (f : Flag) : Bool := l.flags.getLsbD f.index

/-! ## Predicates of the carriage states -/

/-- RELEASING, MOVING, BLOCKED and STOPPING: the motion states of R106, which hold a grant (R150) and turn MOTION
on (R187). -/
def CarriageState.inMotion : CarriageState → Bool
  | .releasing | .moving | .blocked | .stopping _ _ => true
  | .parked | .awaitPower | .held | .tripped _ => false

/-- TRIPPED, whether confirmed or not. -/
def CarriageState.isTripped : CarriageState → Bool
  | .tripped _ => true
  | .parked | .awaitPower | .releasing | .moving | .blocked | .stopping _ _ | .held => false

/-- STOPPING, whatever its purpose and stage. -/
def CarriageState.isStopping : CarriageState → Bool
  | .stopping _ _ => true
  | .parked | .awaitPower | .releasing | .moving | .blocked | .held | .tripped _ => false

/-! ## Posting an event (R178, R179) -/

/-- The number of an event's kind in the table of R178. -/
def Event.kindNumber : Event → Fin 16
  | .moveEnd .. => 0
  | .carriageState .. => 1
  | .stationState .. => 2
  | .ringState .. => 3
  | .ringCount .. => 4
  | .plateUnknown .. => 5
  | .slip .. => 6
  | .railSplit .. => 7
  | .skewWarn .. => 8
  | .levelChange .. => 9
  | .anemometerInvalid .. => 10
  | .rain .. => 11
  | .emergencyStop .. => 12
  | .granted .. => 13
  | .timedOut .. => 14
  | .storeDone .. => 15

/-- The flags a carriage-state event sets (R112). -/
def CarriageNews.flags (n : CarriageNews) : List Flag :=
  (if n.after = .held && n.before ≠ .held then [Flag.ofCarriage n.carriage .held] else []) ++
  (if n.after.isTripped && !n.before.isTripped then [Flag.ofCarriage n.carriage .tripped] else []) ++
  (if n.reason = .resumable then [Flag.ofCarriage n.carriage .resumable] else []) ++
  (if n.reason = .brakesUnconfirmed then [Flag.ofCarriage n.carriage .brakesUnconfirmed] else []) ++
  (if n.after = .blocked && n.before ≠ .blocked then [Flag.ofCarriage n.carriage .blocked] else [])

/-- The flags an event sets (R178 and the posting rules it names). -/
def Event.flags : Event → List Flag
  | .moveEnd c _ outcome _ _ =>
    .ofCarriage c .ended :: (if outcome = .arrived then [.ofCarriage c .arrived] else [])
  | .carriageState news => news.flags
  | .stationState _ c _ after _ =>
    match after with
    | .lost => [.ofCarriage c .stationLost]
    | .fault _ => [.ofCarriage c .stationFault]
    | .unused | .offline | .identifying | .loading | .ready | .driving | .sidelined _ | .retired => []
  | .ringState news =>
    match news.ring with
    | .a => [.ofModule .ringAChange]
    | .b => [.ofModule .ringBChange]
  | .ringCount .. => [.ofModule .ringCount]
  | .plateUnknown c .. => [.ofCarriage c .plateUnknown]
  | .slip c .. => [.ofCarriage c .slip]
  | .railSplit c .. => [.ofCarriage c .railSplit]
  | .skewWarn c .. => [.ofCarriage c .skewWarn]
  | .levelChange before after .. => if before < after then [.ofModule .levelUp] else [.ofModule .levelDown]
  | .anemometerInvalid .. => [.ofModule .anemometerInvalid]
  | .rain wet => if wet then [.ofModule .rainOn] else [.ofModule .rainOff]
  | .emergencyStop asserted => if asserted then [.ofModule .estopOn] else [.ofModule .estopOff]
  | .granted .. => [.ofModule .granted]
  | .timedOut .. => [.ofModule .timedOut]
  | .storeDone .. => []

/-- The link with flags set. -/
def Link.raise (l : Link) (fs : List Flag) : Link := { l with flags := fs.foldl setFlag l.flags }

/-- The capacity of the urgent queue (R179). -/
def urgentCapacity : Nat := 16

/-- The capacity of the routine queue (R179). -/
def routineCapacity : Nat := 48

/-- R179: a notice offered to the urgent queue. -/
def Link.offerUrgent (l : Link) (e : Event) : Link :=
  if l.urgent.length < urgentCapacity then { l with urgent := l.urgent ++ [e] }
  else ({ l with urgentLost := true }).raise [.ofModule .noticeLost]

/-- R179: a notice offered to the routine queue. -/
def Link.offerRoutine (l : Link) (e : Event) : Link :=
  if l.routine.length < routineCapacity then { l with routine := l.routine ++ [e] }
  else ({ l with routineLost := true }).raise [.ofModule .noticeLost]

/-- R178, R179: the flags are set whatever the class; a notice is offered by the class of its kind. -/
def Link.post (l : Link) (n : NoticeSettings) (e : Event) : Link :=
  let l := l.raise e.flags
  if n.master then
    match n.classes[e.kindNumber] with
    | 0 => l
    | 1 => l.offerRoutine e
    | 2 => l.offerUrgent e
  else l

/-- A block posts an event to the Link Unit. -/
def State.post (s : State) (e : Event) : State := { s with link := s.link.post s.settings.notices e }

/-- A frame in reception or a frame set aside failed (R169, R170): LINK_ERROR is set, the reason recorded, and the
receiver hunts again. -/
def Link.fail (l : Link) (error : ReceiveError) : Link :=
  { l.raise [.ofModule .linkError] with lastError := error, receiver := .hunting }

/-! ## Answers and the transmitter (R170, R171, R180) -/

/-- The transmitter is sending an answer. -/
def Link.sendingAnswer (l : Link) : Bool :=
  match l.sending with
  | some (.answer _) => true
  | some (.notice ..) => false
  | none => false

/-- Answers outstanding (R170): queued, or being sent. -/
def Link.outstanding (l : Link) : Nat := l.answers.length + (if l.sendingAnswer then 1 else 0)

/-- The answers that may be outstanding (R170). -/
def answerCapacity : Nat := 8

/-- The last character of the RESTART answer has been sent, and the reset is to take place (R185). -/
def Link.restartDue (l : Link) : Bool := l.restartPending && l.answers.isEmpty && l.sending.isNone

/-- R180: an idle transmitter chooses its next frame: answer, urgent notice, routine notice; R179: a notice takes
the sequence and its queue's lost mark. Nothing is begun between the RESTART answer and the reset (log entry 10). -/
def Link.choose (l : Link) : Link :=
  if l.sending.isSome || l.restartDue then l
  else
    match l.answers with
    | a :: rest => { l with sending := some (.answer a), answers := rest }
    | [] =>
      match l.urgent with
      | e :: rest =>
        { l with sending := some (.notice l.sequence l.urgentLost e), urgent := rest, urgentLost := false,
                 sequence := l.sequence + 1 }
      | [] =>
        match l.routine with
        | e :: rest =>
          { l with sending := some (.notice l.sequence l.routineLost e), routine := rest, routineLost := false,
                   sequence := l.sequence + 1 }
        | [] => l

/-! ## What every event ends with -/

/-- R187: some carriage is in RELEASING, MOVING, BLOCKED or STOPPING. -/
def State.anyInMotion (s : State) : Bool := s.carriages.toList.any fun c => c.state.inMotion

/-- The end of an event of the running module: the output lines follow (R187) and an idle transmitter chooses
(R180, log entry 9). READY is off from the start of a RESTART's reset, when its answer has been sent, to its end. -/
def State.settle (s : State) : State :=
  { s with ready := !s.lines.estop && !s.link.restartDue, motion := s.anyInMotion, link := s.link.choose }

/-- An event of the running module. While the module is held or without supply it takes no frame and no event of a
block (R185, log entry 17). -/
def event (s : State) (f : State → State) : Host.Outcome State Fault Refusal :=
  match s.power with
  | .running => .next (f s).settle
  | .held => .next s
  | .off => .next s

end Sys2Proof.Machine
end

