-- ==== Sys2Proof/Machine/Ops.lean ====
section
/-! DEFINITION. The operations the commands share: reading and changing records, messages between blocks, station
states and the service queue (Chapters 2 and 3), the grant queue (Chapter 8), interlocks (Chapter 7), and what a
carriage engine does at an order's end, a trip, a hold, a release and a resumption (Chapter 5). -/

namespace Sys2Proof.Machine

/-! ## Reading and changing records -/

/-- C0 to C5. -/
def allCarriages : List (Fin 6) := [0, 1, 2, 3, 4, 5]

/-- S0 to S63. -/
def allStations : List (Fin 64) := List.finRange 64

/-- Nodes 0 to 39. -/
def allNodes : List (Fin 40) := List.finRange 40

/-- Rails 0 to 3. -/
def allRails : List (Fin 4) := [0, 1, 2, 3]

/-- Interlock entries 0 to 15. -/
def allEntries : List (Fin 16) := List.finRange 16

/-- The live record of a carriage. -/
def State.car (s : State) (c : Fin 6) : Carriage := s.carriages[c]

/-- The configuration of a carriage. -/
def State.cfg (s : State) (c : Fin 6) : CarriageConfig := s.settings.carriages[c]

/-- The live record of a station. -/
def State.st (s : State) (n : Fin 64) : Station := s.stations[n]

/-- The configuration of a station. -/
def State.stCfg (s : State) (n : Fin 64) : StationConfig := s.settings.stations[n]

/-- The record of a ring. -/
def State.ring (s : State) : RingId → Ring
  | .a => s.ringA
  | .b => s.ringB

/-- The settings of a ring. -/
def State.ringCfg (s : State) : RingId → RingSettings
  | .a => s.settings.ringA
  | .b => s.settings.ringB

/-- Change one carriage's live record. -/
def State.modCar (s : State) (c : Fin 6) (f : Carriage → Carriage) : State :=
  { s with carriages := s.carriages.set c (f s.carriages[c]) }

/-- Change one station's live record. -/
def State.modSt (s : State) (n : Fin 64) (f : Station → Station) : State :=
  { s with stations := s.stations.set n (f s.stations[n]) }

/-- Change one ring's record. -/
def State.modRing (s : State) (r : RingId) (f : Ring → Ring) : State :=
  match r with
  | .a => { s with ringA := f s.ringA }
  | .b => { s with ringB := f s.ringB }

/-- The carriage a station's configuration names. -/
def State.home (s : State) (n : Fin 64) : Fin 6 := (s.stCfg n).carriage

/-- R16: the ring of a station is the ring of its carriage. -/
def State.ringOf (s : State) (n : Fin 64) : RingId := (s.cfg (s.home n)).ring

/-- An enabled station whose carriage is on the ring (Chapter 3). -/
def State.onRing (s : State) (r : RingId) (n : Fin 64) : Bool := (s.stCfg n).enabled && s.ringOf n = r

/-- A station of a carriage: enabled, and naming it (R10). -/
def State.isStationOf (s : State) (c : Fin 6) (n : Fin 64) : Bool :=
  (s.stCfg n).enabled && (s.stCfg n).carriage = c

/-- The stations of a carriage, in number order. -/
def State.stationsOf (s : State) (c : Fin 6) : List (Fin 64) := allStations.filter (s.isStationOf c)

/-- The rails of a carriage: 0 to rail count − 1 (R5). -/
def State.railsOf (s : State) (c : Fin 6) : List (Fin 4) := allRails.filter fun r => r.val < (s.cfg c).railCount

/-- The carriages of a ring, enabled or not (Chapter 3). -/
def State.carriagesOf (s : State) (r : RingId) : List (Fin 6) := allCarriages.filter fun c => (s.cfg c).ring = r

/-- DRIVING or SIDELINED: a driven station (R89). -/
def StationState.isDriven : StationState → Bool
  | .driving | .sidelined _ => true
  | .unused | .offline | .identifying | .loading | .ready | .lost | .fault _ | .retired => false

/-- FAULT, whatever its reason. -/
def StationState.isFault : StationState → Bool
  | .fault _ => true
  | .unused | .offline | .identifying | .loading | .ready | .driving | .sidelined _ | .lost | .retired => false

/-- The driven stations of a carriage. -/
def State.drivenOf (s : State) (c : Fin 6) : List (Fin 64) :=
  (s.stationsOf c).filter fun n => (s.st n).state.isDriven

/-- A flag of the latest filled slot of a station; without one, clear. -/
def Station.shows (st : Station) (flag : Slot → Bool) : Bool :=
  match st.reported with
  | some r => flag r.slot
  | none => false

/-- Every one of a list of stations shows a flag in its latest filled slot. -/
def State.allShow (s : State) (ns : List (Fin 64)) (flag : Slot → Bool) : Bool := ns.all fun n => (s.st n).shows flag

/-- R108, R188: the driven stations and the FAULT stations of a carriage, without those that have gone LOST since it
tripped. -/
def State.tripSet (s : State) (c : Fin 6) : List (Fin 64) :=
  (s.stationsOf c).filter fun n =>
    !(s.st n).lostInTrip && ((s.st n).state.isDriven || (s.st n).state.isFault)

/-! ## Messages between blocks (log entry 4) -/

/-- A block posts a message to another block. -/
def State.send (s : State) (p : Post) : State := { s with posts := s.posts ++ [p] }

/-- A message reaches its block: the first such message that waits, if one does, is thereby taken (log entry 4). -/
def State.takeMessage (s : State) (p : Post) : State := { s with posts := s.posts.erase p }

/-! ## The service queue (R61 to R64) -/

/-- The service queue's capacity (R61). -/
def serviceCapacity : Nat := 16

/-- R63: a freed place of the service queue goes to the station at the head of the pending list. -/
def State.promote (s : State) (r : RingId) : State :=
  if (s.ring r).queue.length < serviceCapacity then
    match (s.ring r).pendingList with
    | [] => s
    | m :: rest =>
      match (s.st m).pendingRequest with
      | some q =>
        (s.modRing r fun g => { g with queue := g.queue ++ [⟨m, q.kind, q.data, 0⟩], pendingList := rest }).modSt m
          fun st => { st with pendingRequest := none }
      | none => s.modRing r fun g => { g with pendingList := rest }
  else s

/-- R61: a request merged into a queued one keeps its place; changed data restarts its attempts. -/
def Request.merge (q : Request) (data : Option ParamSet) : Request :=
  if q.data = data then q else { q with data := data, attempts := 0 }

/-- R61: a request is raised for a station. -/
def State.raiseRequest (s : State) (n : Fin 64) (kind : ServiceKind) (data : Option ParamSet) : State :=
  let r := s.ringOf n
  if (s.ring r).queue.any (fun q => q.station = n && q.kind = kind) then
    s.modRing r fun g =>
      { g with queue := g.queue.map fun q => if q.station = n && q.kind = kind then q.merge data else q }
  else if (s.st n).pendingRequest.isSome then
    s.modSt n fun st => { st with pendingRequest := some ⟨kind, data⟩ }
  else if (s.ring r).queue.length < serviceCapacity then
    s.modRing r fun g => { g with queue := g.queue ++ [⟨n, kind, data, 0⟩] }
  else
    (s.modRing r fun g => { g with pendingList := g.pendingList ++ [n] }).modSt n
      fun st => { st with pendingRequest := some ⟨kind, data⟩ }

/-- R62: a request in flight that leaves the queue is no longer judged at the completion. -/
def Round.forget (f : Round) (n : Fin 64) : Round :=
  { f with request := f.request.map fun q => if q.station = n then { q with live := false } else q }

/-- R64: the requests of a station are removed, its pending mark is cleared, and a freed place is given on (R63). -/
def State.dropRequests (s : State) (n : Fin 64) : State :=
  let r := s.ringOf n
  let queued := (s.ring r).queue.any fun q => q.station = n
  let s := s.modRing r fun g =>
    { g with queue := g.queue.filter (fun q => q.station ≠ n), pendingList := g.pendingList.filter (· ≠ n),
             inFlight := g.inFlight.map (·.forget n) }
  let s := s.modSt n fun st => { st with pendingRequest := none }
  if queued then s.promote r else s

/-! ## Station states -/

/-- R70: the reckoning fields start afresh; the last counts, speed and round are not among the values it lists. -/
def Reckoning.startAfresh (k : Reckoning) : Reckoning :=
  { k with kind := .none, base := none, lastPlate := none, lastPosition := none, cumulative := 0, exclusion := none }

/-- R70: the states whose entry starts the reckoning fields afresh. -/
def StationState.startsAfresh : StationState → Bool
  | .identifying | .offline | .unused | .retired => true
  | .loading | .ready | .driving | .sidelined _ | .lost | .fault _ => false

/-- R64: the states that asked for a service request. -/
def StationState.inService : StationState → Bool
  | .identifying | .loading => true
  | .unused | .offline | .ready | .driving | .sidelined _ | .lost | .fault _ | .retired => false

/-- What a change of a station's state tells its carriage engine (R30, R31). -/
def stationMessages (c : Fin 6) (old new : StationState) : List Post :=
  (if old = .lost then [Post.cleared c .stationLoss] else []) ++
  (if new = .lost && old.isDriven then [Post.hold c .stationLoss] else []) ++
  (if new.isFault && old.isDriven then [Post.trip c .stationFault] else [])

/-- A station changes its state: requests its old state asked for are removed (R64), its reckoning starts afresh
where R70 says so, a driven station lost from a TRIPPED carriage is marked (R188), the station-state event is posted
(R36), and the engine of `c` is told (R30, R31). -/
def State.changeStation (s : State) (n : Fin 64) (c : Fin 6) (new : StationState) (reason : StationReason) : State :=
  let old := (s.st n).state
  if old = new then s
  else
    let s := if old.inService then s.dropRequests n else s
    let lostNow := new = .lost && old.isDriven && (s.car c).state.isTripped
    let s := s.modSt n fun st =>
      { st with state := new, reckoning := if new.startsAfresh then st.reckoning.startAfresh else st.reckoning,
                lostInTrip := st.lostInTrip || lostNow }
    let s := s.post (.stationState n (s.home n) old new reason)
    { s with posts := s.posts ++ stationMessages c old new }

/-- The same, told to the carriage the station's configuration names. -/
def State.enterStation (s : State) (n : Fin 64) (new : StationState) (reason : StationReason) : State :=
  s.changeStation n (s.home n) new reason

/-- R18: the entry of a station to OFFLINE or UNUSED by configuration or by a quiet ring. -/
def State.putOut (s : State) (n : Fin 64) (c : Fin 6) (new : StationState) (reason : StationReason) : State :=
  ((s.dropRequests n).changeStation n c new reason).modSt n fun st =>
    { st with identity := none, params := none, echoed := false, inFlight := none, reported := none, misses := 0,
              command := .idleBraked, setpoint := 0 }

/-- R19, R34: a station is enumerated: IDENTIFYING with an IDENTIFY request. -/
def State.enumerate (s : State) (n : Fin 64) : State :=
  (s.enterStation n .identifying .none).raiseRequest n .identify none

/-- R23: the parameter set of a station as its inputs stand. -/
def State.formParams (s : State) (n : Fin 64) : ParamSet :=
  let cfg := s.cfg (s.home n)
  let ring := s.ringCfg (s.ringOf n)
  let rated := ((s.st n).identity.map Identity.ratedSpeed).getD 0
  { ceiling := min (cfg.maxSpeed + cfg.trimLimit) rated
    lossTime := ring.lossLimit * ring.period
    sampleLead := ring.sampleLead }

/-- R23, R24: the present parameter set is formed and a LOAD request carrying it is raised. -/
def State.loadPresent (s : State) (n : Fin 64) : State :=
  let p := s.formParams n
  (s.modSt n fun st => { st with params := some p, echoed := false }).raiseRequest n .load (some p)

/-- R22, R24: a station enters LOADING with its present parameter set. -/
def State.enterLoading (s : State) (n : Fin 64) : State := (s.enterStation n .loading .none).loadPresent n

/-- R26, R32, R70: one READY station enters DRIVING. -/
def State.driveStation (s : State) (n : Fin 64) : State :=
  if (s.st n).state = .ready then
    (s.enterStation n .driving .none).modSt n fun st =>
      { st with limitArmed := !st.shows Slot.limitReached, reckoning := { st.reckoning with cumulative := 0 } }
  else s

/-- R26: every READY station of a carriage enters DRIVING. -/
def State.driveReady (s : State) (c : Fin 6) : State := (s.stationsOf c).foldl State.driveStation s

/-- R28, R24: one driven station returns to READY, and on to LOADING when its parameter set has changed. -/
def State.returnStation (s : State) (n : Fin 64) : State :=
  if (s.st n).state.isDriven then
    let s := s.enterStation n .ready .none
    if (s.st n).params = some (s.formParams n) then s else s.enterLoading n
  else s

/-- R28: every driven station of a carriage returns to READY. -/
def State.returnReady (s : State) (c : Fin 6) : State := (s.stationsOf c).foldl State.returnStation s

/-! ## Power (R144 to R150) -/

/-- R144: the sum of the rated power of the carriage's READY stations. -/
def State.need (s : State) (c : Fin 6) : Nat :=
  (((s.stationsOf c).filter fun n => (s.st n).state = .ready).map fun n =>
    ((s.st n).identity.map Identity.ratedPower).getD 0).sum

/-- R145: grant order: before the first carriage of a higher class number. -/
def insertWaiting (w : Waiting) : List Waiting → List Waiting
  | [] => [w]
  | v :: vs => if w.priority < v.priority then w :: v :: vs else v :: insertWaiting w vs

/-- R145: a carriage joins the grant queue, and a grant attempt follows (R146). -/
def State.joinQueue (s : State) (c : Fin 6) : State :=
  let w : Waiting :=
    { carriage := c, priority := (s.cfg c).priority, need := s.need c, number := s.arbiter.counter,
      timer := sToUs (s.cfg c).grantTimeout }
  ({ s with arbiter := { s.arbiter with queue := insertWaiting w s.arbiter.queue,
                                         counter := s.arbiter.counter + 1 } }).send .grantAttempt

/-- A carriage leaves the grant queue without a grant, and a grant attempt follows (R146, R149). -/
def State.leaveQueue (s : State) (c : Fin 6) : State :=
  ({ s with arbiter := { s.arbiter with queue := s.arbiter.queue.filter fun w => w.carriage ≠ c } }).send .grantAttempt

/-- R150: a carriage gives its grant back, and a grant attempt follows (R146). -/
def State.releaseGrant (s : State) (c : Fin 6) : State :=
  match s.arbiter.grants.find? (fun g => g.carriage = c) with
  | some g =>
    ({ s with arbiter := { s.arbiter with grants := s.arbiter.grants.filter (fun g => g.carriage ≠ c),
                                           grantedSum := s.arbiter.grantedSum - g.need } }).send .grantAttempt
  | none => s

/-! ## Wind response (R163) -/

/-- R163: the carriage's action and cap % at the present site level; NONE at CALM. -/
def State.response (s : State) (c : Fin 6) : Response :=
  match s.weather.level with
  | 0 => ⟨.none, 100⟩
  | 1 => s.settings.responses[c][0]
  | 2 => s.settings.responses[c][1]
  | 3 => s.settings.responses[c][2]

/-- R91 check 6, R105 check 6: the response lets this task begin. -/
def State.windAllows (s : State) (c : Fin 6) (t : Task) : Bool :=
  match (s.response c).action with
  | .none | .cap => true
  | .hold => false
  | .noStart =>
    match t with
    | .move target => target = (s.cfg c).refuge
    | .seek .. => false

/-! ## Interlocks (R133 to R137) -/

/-- R133: the carriage publishes its P and its effective target. -/
def State.publish (s : State) (c : Fin 6) : State :=
  s.modCar c fun k => { k with reach := ⟨k.position, k.effectiveTarget⟩ }

/-- R133: a published reach in a direction. -/
def Reach.inDirection (r : Reach) (d : Direction) : Option Int :=
  match r.p, r.target with
  | none, _ => none
  | some p, none => some p
  | some p, some t =>
    match d with
    | .outward => some (max p t)
    | .inward => some (min p t)

/-- R134: the entry is active for carriage c. -/
def State.entryActive (s : State) (c : Fin 6) (i : Fin 16) : Bool :=
  let e := s.settings.interlocks[i]
  e.enabled && e.carriageA = c &&
    match (s.car e.carriageB).reach.inDirection e.directionB with
    | none => true
    | some x => beyond e.directionB x e.thresholdB

/-- R134: the entries active for carriage c, by rising index, an order that no rule gives (log entry 49). -/
def State.active (s : State) (c : Fin 6) : List (Fin 16) := allEntries.filter (s.entryActive c)

/-- A free interval: without a bound it is open on that side (R135). -/
structure Interval where
  lower : Option Int
  upper : Option Int
  deriving DecidableEq, Repr

/-- R135: an active entry's bound narrows the interval. -/
def Interval.narrow (v : Interval) (p : Int) (e : Interlock) : Interval :=
  match e.directionA with
  | .outward => { v with upper := some (match v.upper with
                                        | some u => min u (max e.limitA p)
                                        | none => max e.limitA p) }
  | .inward => { v with lower := some (match v.lower with
                                       | some l => max l (min e.limitA p)
                                       | none => min e.limitA p) }

/-- R135: the free interval of carriage c at position p. -/
def State.freeInterval (s : State) (c : Fin 6) (p : Int) : Interval :=
  (s.active c).foldl (fun v i => v.narrow p s.settings.interlocks[i]) ⟨none, none⟩

/-- A position clamped into an interval. -/
def Interval.clamp (v : Interval) (x : Int) : Int :=
  let x := match v.upper with
    | some u => min u x
    | none => x
  match v.lower with
  | some l => max l x
  | none => x

/-- R135: a position clamped into the travel limits of carriage c. -/
def State.clampTravel (s : State) (c : Fin 6) (x : Int) : Int := clampInt (s.cfg c).travelMin (s.cfg c).travelMax x

/-- R135, R136: the effective target of a MOVE to x and the pinned mark are formed from position p. When p is absent
the bounds of active entries cannot be formed: without one the target is x, else it is a free value (log entry 1). In
both cases the pinned mark is clear, which with an active entry is the model's choice (log entry 45). -/
def State.formTarget (s : State) (c : Fin 6) (x : Int) (p : Option Int) : State :=
  let active := s.active c
  match p with
  | some p =>
    let v := s.freeInterval c p
    let t := s.clampTravel c (v.clamp x)
    s.modCar c fun k =>
      { k with effectiveTarget := some t, pinned := v.clamp t ≠ t, activeEntries := active }
  | none =>
    if active.isEmpty then
      s.modCar c fun k =>
        { k with effectiveTarget := some (s.clampTravel c x), pinned := false, activeEntries := active }
    else
      { s.modCar c fun k =>
          { k with effectiveTarget := some (s.clampTravel c (Config.targetWithoutPosition s.freeCount)),
                   pinned := false, activeEntries := active } with
        freeCount := s.freeCount + 1 }

/-- R133, R136: the effective target becomes absent; a target that was present is published as absent. -/
def State.dropTarget (s : State) (c : Fin 6) : State :=
  let present := (s.car c).effectiveTarget.isSome
  let s := s.modCar c fun k => { k with effectiveTarget := none, pinned := false }
  if present then s.publish c else s

/-- R137: the SEEK's bound, when its end of the free interval exists, lies within the arrival tolerance of P; without
P, some active entry restrains its direction. -/
def State.seekAtBound (s : State) (c : Fin 6) (d : Direction) (p : Option Int) : Bool :=
  match p with
  | some p =>
    let v := s.freeInterval c p
    match (match d with
           | .outward => v.upper
           | .inward => v.lower) with
    | some bound => (bound - p).natAbs ≤ (s.cfg c).arrivalTolerance
    | none => false
  | none => (s.active c).any fun i => s.settings.interlocks[i].directionA = d

/-- R135, R137, R140: what an accepted or resumed order makes of the effective target. A SEEK has none; its active
entries are formed at once when the carriage is BLOCKED. -/
def State.takeTask (s : State) (c : Fin 6) (t : Task) : State :=
  match t with
  | .move x => (s.formTarget c x (s.car c).position).publish c
  | .seek .. =>
    let s := if (s.car c).state = .blocked then s.modCar c fun k => { k with activeEntries := s.active c } else s
    s.dropTarget c

/-! ## Carriage states -/

/-- The states whose entry sets the speeds to zero (R89). -/
def CarriageState.zeroes : CarriageState → Bool
  | .parked | .releasing | .held | .tripped _ => true
  | .awaitPower | .moving | .blocked | .stopping _ _ => false

/-- Every rail setpoint is 0. -/
def zeroSetpoints (rails : Vector Rail 4) : Vector Rail 4 := Vector.ofFn fun r => { rails[r] with setpoint := 0 }

/-- A carriage enters a state. Fields that belong to a state are dropped when it is left: the phase (R122), the brake
release timer (R97), the block timer (R140), the brake set timer (R98, R107), the seek stop mark (R14), the trip cause
and brakes unconfirmed (R109), the resume record and its mark (R102, R104), the hold causes and the notes of the frozen
order (R100, R107). -/
def Carriage.enter (k : Carriage) (new : CarriageState) : Carriage :=
  { k with
    state := new
    phase := if new = .moving then k.phase else none
    vCmd := if new.zeroes then 0 else k.vCmd
    rails := if new.zeroes then zeroSetpoints k.rails else k.rails
    releaseTimer := if new = .releasing then k.releaseTimer else none
    blockTimer := if new = .blocked then k.blockTimer else none
    setTimer := if new.isTripped || new.isStopping then k.setTimer else none
    seekStop := new.isStopping && k.seekStop
    tripCause := if new.isTripped then k.tripCause else none
    brakesUnconfirmed := new.isTripped && k.brakesUnconfirmed
    resume := if new = .held then k.resume else none
    resumable := decide (new = .held) && k.resumable
    holds := if new = .held || new = .stopping .hold .ramp || new = .stopping .hold .brake then k.holds else {}
    notes := if new = .stopping .hold .ramp || new = .stopping .hold .brake then k.notes else none }

/-- R112: the carriage-state event of carriage c, with the state it had before. -/
def State.postCarriage (s : State) (c : Fin 6) (before : CarriageState) (reason : CarriageReason)
    (entries : List (Fin 16)) : State :=
  let k := s.car c
  s.post (.carriageState
    { carriage := c, kind := (s.cfg c).kind, before := before, after := k.state, reason := reason, holds := k.holds,
      recordCauses := k.resume.map ResumeRecord.causes, trip := k.tripCause, position := k.position,
      entries := entries })

/-- A carriage enters a state and posts the event of the entry. -/
def State.enterState (s : State) (c : Fin 6) (new : CarriageState) (reason : CarriageReason) : State :=
  (s.modCar c (·.enter new)).postCarriage c (s.car c).state reason []

/-- R99: a move-end event for an order of carriage c. -/
def State.postMoveEnd (s : State) (c : Fin 6) (o : Order) (outcome : MoveOutcome) (trip : Option TripCause) : State :=
  s.post (.moveEnd c o.tag outcome trip (s.car c).position)

/-- R99: the current or frozen order, if any, ends with an outcome; its effective target becomes absent. -/
def State.endOrder (s : State) (c : Fin 6) (outcome : MoveOutcome) (trip : Option TripCause) : State :=
  match (s.car c).order with
  | some o => ((s.postMoveEnd c o outcome trip).modCar c fun k => { k with order := none }).dropTarget c
  | none => s

/-- The order is a SEEK. -/
def Order.isSeek (o : Order) : Bool :=
  match o.task with
  | .seek .. => true
  | .move _ => false

/-- The current or frozen order is a SEEK. -/
def Carriage.seeking (k : Carriage) : Bool :=
  match k.order with
  | some o => o.isSeek
  | none => false

/-- R97, R94: the entry to RELEASING: the brake release timer starts and READY stations enter DRIVING (R26). -/
def State.enterReleasing (s : State) (c : Fin 6) (reason : CarriageReason) : State :=
  let before := (s.car c).state
  let s := s.modCar c fun k =>
    { k.enter .releasing with releaseTimer := some (msToUs (s.cfg c).releaseTimeout) }
  (s.postCarriage c before reason []).driveReady c

/-- R93, R104, R105: an order becomes the current order of a carriage at rest, which enters AWAIT_POWER and asks for
its need (R144, R145). -/
def State.enterAwaitPower (s : State) (c : Fin 6) (o : Order) (reason : CarriageReason) : State :=
  let before := (s.car c).state
  let s := s.modCar c fun k => { k.enter .awaitPower with order := some o }
  let s := s.takeTask c o.task
  (s.postCarriage c before reason []).joinQueue c

/-- R99, R100, R95, R140: the order ends and the carriage enters STOPPING(END) in the ramp stage; the seek stop mark is
set at the end of a SEEK (R14). -/
def State.beginStop (s : State) (c : Fin 6) (outcome : MoveOutcome) (reason : CarriageReason) : State :=
  let seek := (s.car c).seeking
  let before := (s.car c).state
  let s := s.endOrder c outcome none
  let s := s.modCar c fun k => { k.enter (.stopping .ending .ramp) with seekStop := seek }
  s.postCarriage c before reason []

/-- R107, R121: entry to TRIPPED. -/
def State.trip (s : State) (c : Fin 6) (cause : TripCause) : State :=
  let before := (s.car c).state
  let s := if before = .awaitPower then s.leaveQueue c else s.releaseGrant c
  let s := s.endOrder c .tripped (some cause)
  let s := s.modCar c fun k =>
    { k.enter (.tripped false) with
      tripCause := some cause
      brakesUnconfirmed := false
      dwellTimer := none
      dwellRun := true
      setTimer := some (msToUs (s.cfg c).setTimeout) }
  s.postCarriage c before .trip []

/-- R106, R110: a trip cause taken by the carriage's state: it trips in a motion state, and by ESTOP in AWAIT_POWER. -/
def State.takeTrip (s : State) (c : Fin 6) (cause : TripCause) : State :=
  if (s.car c).state.inMotion || (cause = .estop && (s.car c).state = .awaitPower) then s.trip c cause else s

/-! ## Holds (R101 to R105) -/

/-- A cause is in a set. -/
def CauseSet.has (t : CauseSet) : HoldCause → Bool
  | .wind => t.wind
  | .link => t.link
  | .stationLoss => t.stationLoss

/-- A cause joins a set. -/
def CauseSet.insert (t : CauseSet) : HoldCause → CauseSet
  | .wind => { t with wind := true }
  | .link => { t with link := true }
  | .stationLoss => { t with stationLoss := true }

/-- A cause leaves a set. -/
def CauseSet.erase (t : CauseSet) : HoldCause → CauseSet
  | .wind => { t with wind := false }
  | .link => { t with link := false }
  | .stationLoss => { t with stationLoss := false }

/-- The set is empty. -/
def CauseSet.isEmpty (t : CauseSet) : Bool := !t.wind && !t.link && !t.stationLoss

/-- WIND is the one cause present (R91, R105). -/
def CauseSet.windOnly (t : CauseSet) : Bool := t.wind && !t.link && !t.stationLoss

/-- R102: the remaining distance of a SEEK, at least 1 mm; the whole distance when the mean is absent. -/
def remainingDistance (distance : Nat) (travelled : Option Nat) : Nat :=
  match travelled with
  | some t => max 1 (distance - t)
  | none => distance

/-- R102: what the engine notes at a hold. -/
def Carriage.holdNotes (k : Carriage) (cause : HoldCause) : HoldNotes :=
  { causes := ({} : CauseSet).insert cause
    position := k.position
    remaining := match k.order with
      | some o =>
        match o.task with
        | .seek _ distance => some (remainingDistance distance k.travelled)
        | .move _ => none
      | none => none }

/-- R102: the order a resume record keeps: a SEEK with its remaining distance. -/
def Order.kept (o : Order) (remaining : Option Nat) : Order :=
  match o.task, remaining with
  | .seek d _, some m => { o with task := .seek d m }
  | .seek _ _, none => o
  | .move _, _ => o

/-- R102: the resume record formed from an order and notes. -/
def Order.record (o : Order) (notes : HoldNotes) : ResumeRecord :=
  { order := o.kept notes.remaining, causes := notes.causes, position := notes.position }

/-- R92: READY while the carriage is at rest, DRIVING while it moves. -/
def countedState (k : CarriageState) : StationState :=
  match k with
  | .parked | .awaitPower | .held | .tripped _ => .ready
  | .releasing | .moving | .blocked | .stopping _ _ => .driving

/-- R92: the stations of rail r in the counted state. -/
def State.counted (s : State) (c : Fin 6) (r : Fin 4) (state : StationState) : List (Fin 64) :=
  (s.stationsOf c).filter fun n => (s.stCfg n).rail = r && (s.st n).state = state

/-- REFERENCED or SEEDED. -/
def Reckoning.placed (k : Reckoning) : Bool :=
  match k.kind with
  | .referenced | .seeded => true
  | .none => false

/-- R92: rail r has the usable stations a task needs. R86 has a SEEK after a wake refused until every rail has candidates
again, while R92 lets a SEEK pass on a rail whose stations are all of kind NONE, which has no candidate: that R92 is
followed is the model's choice (log entry 51). -/
def State.railUsable (s : State) (c : Fin 6) (t : Task) (state : StationState) (r : Fin 4) : Bool :=
  let rail := (s.car c).rails[r]
  let counted := s.counted c r state
  match t with
  | .move _ =>
    rail.mean.isSome && rail.blind = 0 && !rail.split &&
    (s.cfg c).minStations ≤
      (counted.filter fun n => (s.st n).reckoning.placed && (s.st n).reckoning.exclusion.isNone).length
  | .seek .. =>
    !rail.split && (s.cfg c).minStations ≤ counted.length &&
    (!(counted.any fun n => (s.st n).reckoning.placed) || rail.blind = 0)

/-- R92: every rail of the carriage has the usable stations a task needs. -/
def State.railsUsable (s : State) (c : Fin 6) (t : Task) (state : StationState) : Bool :=
  (s.railsOf c).all (s.railUsable c t state)

/-- The carriage's ring is QUIET or DOWN (R91, R105). -/
def State.ringOut (s : State) (c : Fin 6) : Bool :=
  match (s.ring (s.cfg c).ring).state with
  | .quiet | .down => true
  | .closed | .opened => false

/-- R105 checks 3 to 7 of a HELD carriage with an empty cause set; `none` when every check passes. -/
def State.resumeCheck (s : State) (c : Fin 6) (t : Task) : Option Result :=
  if s.ringOut c then some .refusedState
  else if s.lines.estop then some .refusedEstop
  else if !s.railsUsable c t .ready then some .refusedState
  else if !s.windAllows c t then some .refusedWind
  else if s.settings.budget < s.need c then some .refusedPower
  else none

/-- R104: the conditions of a resumption by itself, for a record's order and cause set. -/
def State.mayAutoResume (s : State) (c : Fin 6) (m : ResumeRecord) : Bool :=
  !m.causes.link && (!m.causes.wind || (s.cfg c).resumeWind) && (!m.causes.stationLoss || (s.cfg c).resumeLoss) &&
  (s.resumeCheck c m.order.task).isNone && !s.link.restartPending

/-- R104: a HELD carriage whose hold cause set is empty resumes by itself or is marked resumable. -/
def State.resumeOrWait (s : State) (c : Fin 6) : State :=
  match (s.car c).resume with
  | some m =>
    if s.mayAutoResume c m then s.enterAwaitPower c m.order .autoResume
    else (s.modCar c fun k => { k with resumable := true }).postCarriage c (s.car c).state .resumable []
  | none => s

/-- R101: a hold begins in RELEASING, MOVING or BLOCKED: the order is frozen (R102), STOPPING(HOLD) in the ramp
stage. -/
def State.beginHold (s : State) (c : Fin 6) (cause : HoldCause) : State :=
  let before := (s.car c).state
  let s := s.modCar c fun k =>
    { k.enter (.stopping .hold .ramp) with holds := k.holds.insert cause, notes := some (k.holdNotes cause) }
  s.postCarriage c before (.hold cause) []

/-- R101, R102: a hold in AWAIT_POWER: the carriage leaves the queue and enters HELD with its record. The stations have
not driven, so a SEEK keeps its whole distance. -/
def State.holdWaiting (s : State) (c : Fin 6) (cause : HoldCause) : State :=
  let before := (s.car c).state
  let s := s.leaveQueue c
  let s := s.modCar c fun k =>
    { k.enter .held with
      holds := k.holds.insert cause
      order := none
      resume := k.order.map fun o => o.record { causes := ({} : CauseSet).insert cause, position := k.position,
                                                  remaining := none } }
  (s.dropTarget c).postCarriage c before (.hold cause) []

/-- R101: a cause joins the set of a carriage in STOPPING(HOLD) or HELD; one already present changes nothing. -/
def State.joinHold (s : State) (c : Fin 6) (cause : HoldCause) : State :=
  if (s.car c).holds.has cause then s
  else
    (s.modCar c fun k =>
      { k with
        holds := k.holds.insert cause
        resumable := false
        notes := k.notes.map fun m => { m with causes := m.causes.insert cause }
        resume := k.resume.map fun m => { m with causes := m.causes.insert cause } }).postCarriage c (s.car c).state
      (.causeAdded cause) []

/-- R101: a hold cause taken by the carriage's state. -/
def State.takeHold (s : State) (c : Fin 6) (cause : HoldCause) : State :=
  match (s.car c).state with
  | .releasing | .moving | .blocked => s.beginHold c cause
  | .awaitPower => s.holdWaiting c cause
  | .stopping .hold _ | .held => s.joinHold c cause
  | .stopping .ending _ | .parked | .tripped _ => s

/-- R103: the condition of a cause has cleared: STATION_LOSS only when no station of the carriage is LOST (R30). -/
def State.causeGone (s : State) (c : Fin 6) (cause : HoldCause) : Bool :=
  match cause with
  | .wind | .link => true
  | .stationLoss => !(s.stationsOf c).any fun n => (s.st n).state = .lost

/-- R112: a change of the hold cause set with a change of state is reported by the state's own event (log entry 11). -/
def State.resumesNow (s : State) (c : Fin 6) : Bool :=
  (s.car c).state = .held && (s.car c).holds.isEmpty &&
    match (s.car c).resume with
    | some m => s.mayAutoResume c m
    | none => false

/-- R103: the clearing of a cause reaches the engine. -/
def State.takeCleared (s : State) (c : Fin 6) (cause : HoldCause) : State :=
  if (s.car c).holds.has cause && s.causeGone c cause then
    let s := s.modCar c fun k => { k with holds := k.holds.erase cause }
    let s := if s.resumesNow c then s else s.postCarriage c (s.car c).state (.causeCleared cause) []
    if (s.car c).state = .held && (s.car c).holds.isEmpty then s.resumeOrWait c else s
  else s

/-- R98, R28, R150: the brakes of a stopping carriage are set: PARKED or HELD, stations READY, grant released; a HELD
carriage whose causes have all cleared is decided by R104. -/
def State.leaveStopping (s : State) (c : Fin 6) (purpose : Purpose) : State :=
  match purpose with
  | .ending => ((s.enterState c .parked .brakesSet).returnReady c).releaseGrant c
  | .hold =>
    let before := (s.car c).state
    let s := s.modCar c fun k =>
      { k.enter .held with
        order := none
        resume := match k.order, k.notes with
          | some o, some m => some (o.record m)
          | some o, none => some (o.record { causes := k.holds, position := k.position, remaining := none })
          | none, _ => none }
    let s := (s.dropTarget c).postCarriage c before .brakesSet []
    let s := (s.returnReady c).releaseGrant c
    if (s.car c).holds.isEmpty then s.resumeOrWait c else s

end Sys2Proof.Machine
end

