-- ==== Sys2Proof/Machine/Clock.lean ====
section
/-! DEFINITION. One microsecond of the module's time (R44, log entry 3): what a step on an empty queue lets pass. Every
running timer loses it; reaching 0 is an expiry, which is a command of its own (log entry 2). -/

namespace Sys2Proof.Machine

/-- A timer one microsecond later; one that has run out stays at 0 until its expiry is taken. -/
def tickTimer (t : Timer) : Timer := t.map (· - 1)

/-- The four timers of a carriage (R14). -/
def Carriage.tick (k : Carriage) : Carriage :=
  { k with dwellTimer := tickTimer k.dwellTimer, blockTimer := tickTimer k.blockTimer,
           releaseTimer := tickTimer k.releaseTimer, setTimer := tickTimer k.setTimer }

/-- The round timer and the round close timer of a ring (R39, R45). -/
def Ring.tick (g : Ring) : Ring :=
  { g with roundTimer := tickTimer g.roundTimer, closeTimer := tickTimer g.closeTimer }

/-- The grant timers (R148). -/
def Arbiter.tick (a : Arbiter) : Arbiter := { a with queue := a.queue.map fun w => { w with timer := w.timer - 1 } }

/-- The weather timer and the descent timer (R156, R160). -/
def Weather.tick (w : Weather) : Weather :=
  { w with weatherTimer := w.weatherTimer - 1, descentTimer := tickTimer w.descentTimer }

/-- The silence monitor (R181). -/
def Silence.tick : Silence → Silence
  | .disarmed => .disarmed
  | .running left => .running (left - 1)
  | .expired => .expired

/-- One microsecond passes; while the module is held or without supply no time counts. -/
def State.tick (s : State) : State :=
  match s.power with
  | .running =>
    { s with
      fieldTime := s.fieldTime + 1
      carriages := Vector.ofFn fun c => s.carriages[c].tick
      ringA := s.ringA.tick
      ringB := s.ringB.tick
      arbiter := s.arbiter.tick
      weather := s.weather.tick
      link := { s.link with silence := s.link.silence.tick } }
  | .held => s
  | .off => s

end Sys2Proof.Machine
end

