-- ==== Sys2Proof/Machine/Arbiter.lean ====
section
/-! DEFINITION. The Power Arbiter (Chapter 8): grant attempts (R146, R147) and grant timeouts (R148). -/

namespace Sys2Proof.Machine

/-- R147: the head of the grant queue is granted: the Arbiter's part. The grant joins the tail of the grant list, whose
order no rule gives (log entry 42). -/
def Arbiter.grant (a : Arbiter) (w : Waiting) (rest : List Waiting) : Arbiter :=
  { a with grantedSum := a.grantedSum + w.need, grants := a.grants ++ [⟨w.carriage, w.need⟩], queue := rest }

/-- R147: a grant as one event: the Arbiter's record, the event GRANTED, and the carriage's entry to RELEASING. -/
def State.grant (s : State) (w : Waiting) (rest : List Waiting) : State :=
  let s := { s with arbiter := s.arbiter.grant w rest }
  (s.post (.granted w.carriage w.need s.arbiter.grantedSum s.settings.budget)).enterReleasing w.carriage .grant

/-- R146: each head in turn is granted while its need fits the free budget; only the head is ever granted. -/
def State.grantFrom (s : State) : List Waiting → State
  | [] => s
  | w :: rest => if s.arbiter.grantedSum + w.need ≤ s.settings.budget then (s.grant w rest).grantFrom rest else s

/-- R146: a grant attempt. -/
def State.grantAttempt (s : State) : State := (s.takeMessage .grantAttempt).grantFrom s.arbiter.queue

/-- The place of a carriage in the grant queue, with its entry. TIMED_OUT (R148) counts the head as place 1, which is the
model's choice (log entry 44). -/
def placeOf (c : Fin 6) (place : Nat) : List Waiting → Option (Waiting × Nat)
  | [] => none
  | w :: rest => if w.carriage = c then some (w, place) else placeOf c (place + 1) rest

/-- R148: the grant timer of a waiting carriage expires. It has waited for its grant timeout (log entry 25). -/
def State.grantTimeout (s : State) (c : Fin 6) : State :=
  match placeOf c 1 s.arbiter.queue with
  | none => s
  | some (w, place) =>
    let s := { s with arbiter := { s.arbiter with queue := s.arbiter.queue.filter fun v => v.carriage ≠ c } }
    let s := s.post (.timedOut c w.need (s.cfg c).grantTimeout place)
    ((s.endOrder c .timedOut none).enterState c .parked .grantTimeout).send .grantAttempt

/-- GRANT_ATTEMPT (R146, R147). -/
def execGrantAttempt (s : State) : Host.Outcome State Fault Refusal := event s State.grantAttempt

/-- GRANT_TIMEOUT (R148). -/
def execGrantTimeout (c : Fin 6) (s : State) : Host.Outcome State Fault Refusal := event s fun s => s.grantTimeout c

end Sys2Proof.Machine
end

