-- ==== Sys2Proof/Machine/Link.lean ====
section
/-! DEFINITION. The Link Unit (Chapter 10): how a valid frame and an order are taken, the frames that fail, the
transmitter, the silence monitor, and the Link Unit's own orders PRESENCE, READ_FLAGS and CONFIG_NOTICES. -/

namespace Sys2Proof.Machine

/-! ## Taking a frame (R170, R171) -/

/-- R181: the silence monitor with its timer started for the silence limit. -/
def startSilence (n : NoticeSettings) : Silence := .running (msToUs n.silence)

/-- R181: the clearing of LINK is posted to every carriage engine, from C0 up (log entry 39). -/
def State.clearLink (s : State) : State := allCarriages.foldl (fun s c => s.send (.cleared c .link)) s

/-- R170 step 1, R181: any valid frame restarts the silence monitor and clears a pending LINK hold. The receiver hunts
from the character that follows (R169). -/
def State.validFrame (s : State) : State :=
  let s := { s with link := { s.link with receiver := .hunting } }
  match s.link.silence with
  | .disarmed =>
    if s.settings.notices.silence = 0 then s
    else { s with link := { s.link with silence := startSilence s.settings.notices } }
  | .running _ => { s with link := { s.link with silence := startSilence s.settings.notices } }
  | .expired => ({ s with link := { s.link with silence := startSilence s.settings.notices } }).clearLink

/-- What an order's owner returns: the state after its event, the result code and the data. -/
structure Reply where
  state : State
  result : Result
  data : AnswerData := .none

/-- R174: a refused order changes nothing. -/
def State.refuse (s : State) (r : Result) : Reply := { state := s, result := r }

/-- An order done, with no data. -/
def State.accept (s : State) : Reply := { state := s, result := .ok }

/-- R171: the answer joins the tail of the answer queue: the order's kind plus 40 hex, its tag, the result, the data. -/
def State.answer (s : State) (kind tag : Byte) (result : Result) (data : AnswerData) : State :=
  { s with link := { s.link with answers := s.link.answers ++ [⟨kind + 0x40, tag, result, data⟩] } }

/-- R170, R171, R185: a valid frame of an order's kind is taken: the silence monitor, then the overrun check, then the
order's own handling and its answer. Between an accepted RESTART and its reset no order is handled (log entry 10). -/
def State.takeOrder (s : State) (kind tag : Byte) (handle : State → Reply) : State :=
  let s := s.validFrame
  if answerCapacity ≤ s.link.outstanding then { s with link := s.link.fail .overrun }
  else if s.link.restartPending then s
  else
    let r := handle s
    r.state.answer kind tag r.result r.data

/-- R171: the format check: a body of the wrong length is answered REFUSED_FORMAT. -/
def handleBody {α : Type} (b : Body α) (f : α → State → Reply) (s : State) : Reply :=
  match b with
  | .wrongLength => s.refuse .refusedFormat
  | .fields x => f x s

/-- R171: an order's event. -/
def order {α : Type} (kind tag : Byte) (b : Body α) (f : α → State → Reply) (s : State) :
    Host.Outcome State Fault Refusal :=
  event s fun s => s.takeOrder kind tag (handleBody b f)

/-- A SAVE is running in the Settings Store (R184). -/
def State.saving (s : State) : Bool := s.store.write.isSome

/-! ## PRESENCE, READ_FLAGS, CONFIG_NOTICES -/

/-- R175: what PRESENCE reports. -/
def State.presenceReport (s : State) : PresenceReport :=
  { fieldTime := s.fieldTime, lastError := s.link.lastError, outstanding := s.link.outstanding,
    urgent := s.link.urgent.length, urgentLost := s.link.urgentLost,
    routine := s.link.routine.length, routineLost := s.link.routineLost,
    silence := s.link.silence, master := s.settings.notices.master }

/-- R175: PRESENCE reports, and the last receive error becomes NONE. -/
def handlePresence (_ : Unit) (s : State) : Reply :=
  { state := { s with link := { s.link with lastError := .none } }, result := .ok, data := .presence s.presenceReport }

/-- R177: READ_FLAGS copies every flag, then clears those the mask names; bits 94 and 95 are ignored. -/
def handleReadFlags (mask : BitVec 96) (s : State) : Reply :=
  { state := { s with link := { s.link with flags := s.link.flags &&& ~~~(mask.setWidth 94) } }, result := .ok,
    data := .flags s.link.flags }

/-- R178, R181: CONFIG_NOTICES; a silence limit of 0 stops a RUNNING monitor. -/
def handleConfigNotices (b : NoticesBody) (s : State) : Reply :=
  if s.saving then s.refuse .refusedBusy
  else
    match noticeSettingsOf b with
    | none => s.refuse .refusedRange
    | some n =>
      let silence := if n.silence = 0 then Silence.disarmed else s.link.silence
      { s with settings := { s.settings with notices := n }, link := { s.link with silence := silence } }.accept

/-! ## Frames that name no order or fail (R169 to R171) -/

/-- R171: a kind that names no order is answered REFUSED_FORMAT. -/
def State.takeUnassigned (s : State) (kind tag : Byte) : State := s.takeOrder kind tag fun s => s.refuse .refusedFormat

/-- R170 step 2: a frame that is not an order is set aside. -/
def State.takeNonOrder (s : State) : State :=
  let s := s.validFrame
  { s with link := s.link.fail .kind }

/-- R170 step 3: a frame that arrives while 8 answers are outstanding is set aside; with fewer there is no overrun. -/
def State.takeOverrun (s : State) : State :=
  if answerCapacity ≤ s.link.outstanding then
    let s := s.validFrame
    { s with link := s.link.fail .overrun }
  else s

/-- R169: the receive error of an abandoned frame. -/
def receiveErrorOf : AbandonReason → ReceiveError
  | .length => .length
  | .line => .line

/-- R169: a frame in reception fails; no other block is reached. -/
def State.failFrame (s : State) (error : ReceiveError) : State := { s with link := s.link.fail error }

/-- R180: the transmitter finishes its frame; the next choice is made at the end of the event. -/
def State.frameSent (s : State) : State := { s with link := { s.link with sending := none } }

/-- R181: the silence monitor expires while RUNNING: LINK_SILENT is set and LINK is posted to every engine, from C0 up
(log entry 39). -/
def State.silenceExpiry (s : State) : State :=
  match s.link.silence with
  | .running _ =>
    let s := { s with link := { s.link.raise [.ofModule .linkSilent] with silence := .expired } }
    allCarriages.foldl (fun s c => s.send (.hold c .link)) s
  | .disarmed | .expired => s

/-! ## The meanings -/

/-- PRESENCE (R175). -/
def execPresence (tag : Byte) (b : Body Unit) (s : State) : Host.Outcome State Fault Refusal :=
  order 0x01 tag b handlePresence s

/-- READ_FLAGS (R177). -/
def execReadFlags (tag : Byte) (b : Body (BitVec 96)) (s : State) : Host.Outcome State Fault Refusal :=
  order 0x02 tag b handleReadFlags s

/-- CONFIG_NOTICES (R178). -/
def execConfigNotices (tag : Byte) (b : Body NoticesBody) (s : State) : Host.Outcome State Fault Refusal :=
  order 0x0E tag b handleConfigNotices s

/-- UNASSIGNED_ORDER_KIND (R171). -/
def execUnassignedOrderKind (kind tag : Byte) (s : State) : Host.Outcome State Fault Refusal :=
  event s fun s => s.takeUnassigned kind tag

/-- NOT_AN_ORDER (R170): the kind and the tag of the frame play no part. -/
def execNotAnOrder (_kind _tag : Byte) (s : State) : Host.Outcome State Fault Refusal := event s State.takeNonOrder

/-- OVERRUN (R170). -/
def execOverrun (s : State) : Host.Outcome State Fault Refusal := event s State.takeOverrun

/-- FRAME_ABANDONED (R169). -/
def execFrameAbandoned (reason : AbandonReason) (s : State) : Host.Outcome State Fault Refusal :=
  event s fun s => s.failFrame (receiveErrorOf reason)

/-- FRAME_GAP (R169). -/
def execFrameGap (s : State) : Host.Outcome State Fault Refusal := event s fun s => s.failFrame .gap

/-- FRAME_CHECK_FAILED (R169). -/
def execFrameCheckFailed (s : State) : Host.Outcome State Fault Refusal := event s fun s => s.failFrame .check

/-- FRAME_SENT (R180). -/
def execFrameSent (s : State) : Host.Outcome State Fault Refusal := event s State.frameSent

/-- SILENCE_TIMER_EXPIRY (R181). -/
def execSilenceTimerExpiry (s : State) : Host.Outcome State Fault Refusal := event s State.silenceExpiry

end Sys2Proof.Machine
end

