-- ==== Sys2Proof/Machine/Reckoning.lean ====
section
/-! DEFINITION. The Position Reckoner (Chapter 4): what it does with the samples of a completed round, carriage by
carriage, up to the delivery of the sample set. -/

namespace Sys2Proof.Machine

/-- What a completed round hands over for one ring (R53): the ring's settings, the round's sequence, and the filled
slot of each node. -/
structure HandOff where
  settings : RingSettings
  sequence : Half
  slots : Fin 40 → Option Slot

/-! ## Plates (R67) -/

/-- The plate of an id in a table. -/
def PlateTable.find (t : PlateTable) (id : Half) : Option Plate :=
  t.toList.findSome? fun e => match e with
    | some p => if p.id = id then some p else none
    | none => none

/-- R67: the plate of an id that is valid for a station of a rail. -/
def PlateTable.validFor (t : PlateTable) (id : Half) (rail : Fin 4) : Option Plate :=
  match t.find id with
  | some p => if p.mask.getLsbD rail.val then some p else none
  | none => none

/-- R67: the plate of an id, when it is valid for station n. -/
def State.plateFor (s : State) (n : Fin 64) (id : Half) : Option Plate :=
  PlateTable.validFor s.settings.plates[s.home n] id (s.stCfg n).rail

/-! ## The position of a station (R72, R73) -/

/-- The encoder scale of a station's identity, in µm per count (R16). -/
def Station.scale (st : Station) : Nat := (st.identity.map Identity.scale).getD 0

/-- R72, R85: counts as whole mm. -/
def countsToMm (counts : Int) (scale : Nat) : Int := rounded (counts * scale) 1000

/-- R72: the travel between the latch and the sample instant. -/
def latchTravel (slot : Slot) : Int := rounded (slot.speed * slot.offset) 1000000

/-- R72: the position from a base value, a slot, a scale and a mount offset, before the clamp of R73. -/
def stationPosition (base : Int) (slot : Slot) (scale : Nat) (mount : Int) : Int :=
  base + countsToMm slot.counts scale - mount - latchTravel slot

/-- R72: the value of a station's base: its plate's position in the table, or its seed base. -/
def State.baseValue (s : State) (n : Fin 64) : Option Int :=
  match (s.st n).reckoning.base with
  | none => none
  | some (.seed mm) => some mm
  | some (.plate id) => (PlateTable.find s.settings.plates[s.home n] id).map Plate.position

/-- R72, R73: the last position of a station is formed from a slot; outside the coordinate range it is clamped and the
exclusion becomes IMPLAUSIBLE. Without a base the last position becomes absent. -/
def State.formPosition (s : State) (n : Fin 64) (slot : Slot) : State :=
  match s.baseValue n with
  | none => s.modSt n fun st => { st with reckoning := { st.reckoning with lastPosition := none } }
  | some b =>
    let p := stationPosition b slot (s.st n).scale (s.stCfg n).mount
    s.modSt n fun st =>
      { st with reckoning :=
        { st.reckoning with
          lastPosition := some (clampInt coordinateMin coordinateMax p)
          exclusion := if inCoordinates p then st.reckoning.exclusion else some .implausible } }

/-! ## Taking a slot (R71, R75, R77, R78) -/

/-- R75: the time since the last taken slot, in ms. -/
def elapsedMs (period : Nat) (now last : Half) : Nat := period * (now - last).toNat

/-- R75: the increment of the cumulative counts. -/
def countIncrement (k : Reckoning) (slot : Slot) (scale elapsed : Nat) : Int :=
  match k.lastPlate with
  | none => 0
  | some id => if slot.plate = id then slot.counts - k.lastCounts else rounded (k.lastSpeed * elapsed) scale

/-- R69, R77: a station loses its reference on an unknown plate, with the event PLATE_UNKNOWN. -/
def State.losePlate (s : State) (n : Fin 64) (plate : Half) : State :=
  (s.modSt n fun st =>
    { st with reckoning := { st.reckoning with kind := .none, base := none, exclusion := some .unreferenced } }).post
    (.plateUnknown (s.home n) n plate)

/-- R78: a passage to a valid plate: the slip check, made when the last position is present. -/
def State.passPlate (s : State) (n : Fin 64) (slot : Slot) (plate : Plate) (elapsed : Nat) : State :=
  let st := s.st n
  let k := st.reckoning
  let new := stationPosition plate.position slot st.scale (s.stCfg n).mount
  let admitted := s.modSt n fun st =>
    { st with reckoning := { st.reckoning with kind := .referenced, base := some (.plate plate.id),
                                                exclusion := none } }
  match k.lastPosition with
  | none => admitted
  | some last =>
    let slip := new - (last + rounded (k.lastSpeed * elapsed) 1000)
    if slip.natAbs ≤ (s.cfg (s.home n)).slipLimit then admitted
    else
      (s.modSt n fun st =>
        { st with reckoning := { st.reckoning with kind := .none, base := some (.plate plate.id),
                                                    exclusion := some .slip } }).post
        (.slip (s.home n) n plate.id slip)

/-- R77: the plate of a taken slot: no passage while the last plate is absent or the same. -/
def State.seePlate (s : State) (n : Fin 64) (slot : Slot) (elapsed : Nat) : State :=
  match (s.st n).reckoning.lastPlate with
  | none => s
  | some last =>
    if slot.plate = last then s
    else
      match (if slot.plate = 0 then none else s.plateFor n slot.plate) with
      | none => s.losePlate n slot.plate
      | some plate => s.passPlate n slot plate elapsed

/-- R70: the last fields are set from a slot of round `sequence`. -/
def State.setLast (s : State) (n : Fin 64) (slot : Slot) (sequence : Half) : State :=
  s.modSt n fun st =>
    { st with reckoning := { st.reckoning with lastPlate := some slot.plate, lastCounts := slot.counts,
                                                lastSpeed := slot.speed, lastRound := sequence } }

/-- R71: a slot is taken: plate passage, cumulative counts, position, then the last fields. -/
def State.takeSlot (s : State) (h : HandOff) (n : Fin 64) (slot : Slot) : State :=
  let k := (s.st n).reckoning
  let elapsed := elapsedMs h.settings.period h.sequence k.lastRound
  let increment := countIncrement k slot (s.st n).scale elapsed
  let s := s.seePlate n slot elapsed
  let s := s.modSt n fun st =>
    { st with reckoning := { st.reckoning with cumulative := st.reckoning.cumulative + increment } }
  (s.formPosition n slot).setLast n slot h.sequence

/-- R71: the states whose slot is taken. -/
def StationState.takesSlot : StationState → Bool
  | .loading | .ready | .driving | .sidelined _ => true
  | .unused | .offline | .identifying | .lost | .fault _ | .retired => false

/-- R71: the slot that is taken for a station at this completion, if any. -/
def State.takenSlot (s : State) (h : HandOff) (n : Fin 64) : Option Slot :=
  if (s.st n).state.takesSlot then h.slots (s.stCfg n).node else none

/-- R71: one station of the carriage is worked through. -/
def State.reckonStation (s : State) (h : HandOff) (n : Fin 64) : State :=
  match s.takenSlot h n with
  | some slot => s.takeSlot h n slot
  | none => s

/-- R74: a sample is fresh when its offset does not exceed the ring's sample age limit in magnitude. -/
def freshSlot (h : HandOff) (slot : Slot) : Bool := slot.offset.natAbs ≤ h.settings.ageLimit

/-- R75: a station's travelled distance in mm. -/
def Station.travelledMm (st : Station) : Nat := (rounded (st.reckoning.cumulative.natAbs * st.scale) 1000).toNat

/-! ## Retained references (R76) -/

/-- R76: the initial sighting at identification, and the retained reference against it. -/
def State.retainedReference (s : State) (n : Fin 64) : State :=
  match (s.st n).reported with
  | none => s
  | some rep =>
    let s := s.setLast n rep.slot rep.round
    match (s.st n).identity.bind Identity.retained with
    | none => s
    | some ret =>
      match s.plateFor n ret.plate with
      | none => s.post (.plateUnknown (s.home n) n ret.plate)
      | some _ =>
        if ret.plate = rep.slot.plate &&
            (rounded ((rep.slot.counts - ret.counts).natAbs * (s.st n).scale) 1000).toNat ≤
              (s.cfg (s.home n)).slipLimit then
          (s.modSt n fun st =>
            { st with reckoning := { st.reckoning with kind := .referenced, base := some (.plate ret.plate) } }
            ).formPosition n rep.slot
        else s

/-! ## Rail means (R80 to R84) -/

/-- A carriage at rest whose READY stations are candidates (R80). -/
def CarriageState.atRest : CarriageState → Bool
  | .parked | .awaitPower | .held => true
  | .releasing | .moving | .blocked | .stopping _ _ | .tripped _ => false

/-- A candidate of a rail and its position. -/
structure Candidate where
  station : Fin 64
  position : Int
  deriving DecidableEq, Repr

/-- R80: a station as a candidate of its rail. -/
def State.candidate (s : State) (h : HandOff) (c : Fin 6) (n : Fin 64) : Option Candidate :=
  let st := s.st n
  if st.state = .driving || (st.state = .ready && (s.car c).state.atRest) then
    match s.takenSlot h n, st.reckoning.lastPosition with
    | some slot, some p =>
      if freshSlot h slot && st.reckoning.placed && st.reckoning.exclusion.isNone then some ⟨n, p⟩ else none
    | some _, none => none
    | none, _ => none
  else none

/-- R80: the candidates of rail r, in station order. -/
def State.candidates (s : State) (h : HandOff) (c : Fin 6) (r : Fin 4) : List Candidate :=
  ((s.stationsOf c).filter fun n => (s.stCfg n).rail = r).filterMap (s.candidate h c)

/-- R81: the rounded mean of positions. -/
def meanOf (cs : List Candidate) : Int := rounded (cs.map Candidate.position).sum cs.length

/-- R81: the candidate farthest from m, the first among equals. -/
def farthest (m : Int) : List Candidate → Option Candidate
  | [] => none
  | x :: xs =>
    match farthest m xs with
    | none => some x
    | some y => if (x.position - m).natAbs < (y.position - m).natAbs then some y else some x

/-- What one rail's forming decides (R81 to R83). -/
structure RailForm where
  rail : Rail
  contributing : List Candidate
  deviant : Option (Fin 64)
  deriving DecidableEq, Repr

/-- R82: two positions farther apart than twice the deviation limit. -/
def splitPair (limit : Nat) : List Candidate → Bool
  | [x, y] => 2 * limit < (x.position - y.position).natAbs
  | [] | [_] | _ :: _ :: _ :: _ => false

/-- R83, R2: the mean a blind rail is extrapolated to, clamped into the coordinate range in which every reported rail
mean lies (log entry 13). -/
def extrapolated (prev : Rail) (period : Nat) (mean : Int) : Int :=
  clampInt coordinateMin coordinateMax (mean + rounded (prev.written * period) 1000)

/-- R81 to R83: the mean, counts and marks of a rail from its candidates, the carriage's deviation limit and the
round period. -/
def formRail (prev : Rail) (cs : List Candidate) (limit period : Nat) : RailForm :=
  match cs with
  | [] =>
    { rail := { prev with
                mean := prev.mean.map (extrapolated prev period)
                contributors := 0
                blind := min 255 (prev.blind + 1)
                split := false }
      contributing := []
      deviant := none }
  | _ :: _ =>
    let m := meanOf cs
    let deviant :=
      if 3 ≤ cs.length then
        match farthest m cs with
        | some x => if limit < (x.position - m).natAbs then some x.station else none
        | none => none
      else none
    let kept :=
      match deviant with
      | some n => cs.filter fun x => x.station ≠ n
      | none => cs
    { rail := { prev with mean := some (meanOf kept), contributors := kept.length, blind := 0,
                          split := splitPair limit cs }
      contributing := kept
      deviant := deviant }

/-- R81 to R83: rail r of carriage c is formed, with the exclusion DEVIATION and the event RAIL_SPLIT where they
arise; the contributors are returned. RAIL_SPLIT names its two stations in number order (log entry 48). -/
def State.reckonRail (s : State) (h : HandOff) (c : Fin 6) (r : Fin 4) : State × List Candidate :=
  let prev := (s.car c).rails[r]
  let cs := s.candidates h c r
  let f := formRail prev cs (s.cfg c).deviationLimit h.settings.period
  let s := s.modCar c fun k => { k with rails := k.rails.set r f.rail }
  let s := match f.deviant with
    | some n => s.modSt n fun st => { st with reckoning := { st.reckoning with exclusion := some .deviation } }
    | none => s
  let s := match cs with
    | [x, y] =>
      if f.rail.split && !prev.split then s.post (.railSplit c r x.station y.station x.position y.position) else s
    | [] | [_] | _ :: _ :: _ :: _ => s
  (s, f.contributing)

/-- All rails of the carriage are formed, from rail 0 up; the contributors of each are kept. -/
def State.reckonRails (s : State) (h : HandOff) (c : Fin 6) : State × List (Fin 4 × List Candidate) :=
  (s.railsOf c).foldl (fun acc r =>
    let out := acc.1.reckonRail h c r
    (out.1, acc.2 ++ [(r, out.2)])) (s, [])

/-- The means of a list of rails, when every one is present. -/
def allMeans (rails : Vector Rail 4) : List (Fin 4) → Option (List Int)
  | [] => some []
  | r :: rs =>
    match rails[r].mean, allMeans rails rs with
    | some m, some ms => some (m :: ms)
    | some _, none => none
    | none, _ => none

/-- The largest of a list, at least the first argument. -/
def maxOf : Int → List Int → Int := List.foldl max

/-- The smallest of a list, at most the first argument. -/
def minOf : Int → List Int → Int := List.foldl min

/-- R84: P and S from the rails' means. -/
def positionAndSkew (ms : List Int) : Option (Int × Int) :=
  match ms with
  | [] => none
  | m :: rest => some (rounded (m :: rest).sum (m :: rest).length, maxOf m rest - minOf m rest)

/-- R84: P and S are written into the carriage record. -/
def State.formPS (s : State) (c : Fin 6) : State :=
  let ps := (allMeans (s.car c).rails (s.railsOf c)).bind positionAndSkew
  s.modCar c fun k => { k with position := ps.map Prod.fst, skew := ps.map Prod.snd }

/-! ## Seeding and sidelining (R85, R79) -/

/-- R85: one station of a PARKED carriage is seeded from its rail's mean. -/
def State.seedStation (s : State) (h : HandOff) (c : Fin 6) (contributing : List Candidate) (n : Fin 64) : State :=
  let st := s.st n
  match s.takenSlot h n, (s.car c).rails[(s.stCfg n).rail].mean with
  | some slot, some m =>
    if st.state = .ready && st.reckoning.kind = .none && st.reckoning.exclusion.isNone && freshSlot h slot &&
        contributing.any (fun x => (s.stCfg x.station).rail = (s.stCfg n).rail &&
          (s.st x.station).reckoning.kind = .referenced) then
      s.modSt n fun st =>
        { st with reckoning :=
          { st.reckoning with
            kind := .seeded
            base := some (.seed (m + (s.stCfg n).mount - countsToMm slot.counts st.scale))
            lastPosition := some m } }
    else s
  | some _, none => s
  | none, _ => s

/-- R79: the exclusion of a driven station decides its state. -/
def State.applyExclusion (s : State) (n : Fin 64) : State :=
  match (s.st n).state, (s.st n).reckoning.exclusion with
  | .driving, some x => s.enterStation n (.sidelined x) .none
  | .sidelined _, none => s.enterStation n .driving .none
  | .sidelined _, some x => s.modSt n fun st => { st with state := .sidelined x }
  | .driving, none => s
  | .unused, _ | .offline, _ | .identifying, _ | .loading, _ | .ready, _ | .lost, _ | .fault _, _ | .retired, _ => s

/-! ## The sample set (R87) -/

/-- R82, R83: the trip cause a rail calls for while the carriage is in motion. -/
def railTrip (k : Carriage) (tolerance : Nat) (rail : Rail) : Option TripCause :=
  if !k.state.inMotion then none
  else if rail.split then some .railSplit
  else if tolerance < rail.blind && !k.seeking && !k.seekStop then some .railBlind
  else none

/-- R87: the referenced mark of a rail: some DRIVING station of it is REFERENCED. -/
def State.railReferenced (s : State) (c : Fin 6) (r : Fin 4) : Bool :=
  (s.stationsOf c).any fun n =>
    (s.stCfg n).rail = r && (s.st n).state = .driving && (s.st n).reckoning.kind = .referenced

/-- R87: the largest |speed| reported among the contributing stations. -/
def State.largestSpeed (s : State) (contributing : List Candidate) : Option Nat :=
  match contributing.map fun x => (s.st x.station).reckoning.lastSpeed.natAbs with
  | [] => none
  | v :: vs => some (vs.foldl max v)

/-- R87: the floor of the mean travelled distance of the DRIVING stations. -/
def State.meanTravelled (s : State) (c : Fin 6) : Option Nat :=
  match ((s.stationsOf c).filter fun n => (s.st n).state = .driving).map fun n => (s.st n).travelledMm with
  | [] => none
  | d :: ds => some ((d :: ds).sum / (d :: ds).length)

/-- R87: the sample set of carriage c. -/
def State.sampleSet (s : State) (c : Fin 6) (contributing : List Candidate) : SampleSet :=
  let k := s.car c
  { p := k.position
    s := k.skew
    rails := Vector.ofFn fun r =>
      { mean := k.rails[r].mean, contributors := k.rails[r].contributors, blind := k.rails[r].blind,
        split := k.rails[r].split, referenced := s.railReferenced c r }
    largestSpeed := s.largestSpeed contributing
    travelled := s.meanTravelled c
    tripBraked := s.allShow (s.tripSet c) Slot.brakeSet
    trip := (s.railsOf c).findSome? fun r => railTrip k (s.cfg c).blindTolerance k.rails[r] }

/-- R87: the sample set is delivered; the record keeps its mean travelled distance beside its P (R102, log entry 27). -/
def State.deliver (s : State) (c : Fin 6) (m : SampleSet) : State :=
  (s.modCar c fun k => { k with travelled := m.travelled }).send (.sample c m)

/-- R71 to R87: the reckoning of one carriage at a hand-off, up to the delivery of its sample set. The station-state
events of R79 follow the carriage's other events, in station number order (log entry 39). -/
def State.reckon (s : State) (h : HandOff) (c : Fin 6) : State :=
  let stations := s.stationsOf c
  let s := stations.foldl (fun s n => s.reckonStation h n) s
  let out := s.reckonRails h c
  let contributing := out.2.flatMap Prod.snd
  let s := out.1.formPS c
  let s := if (s.car c).state = .parked then stations.foldl (fun s n => s.seedStation h c contributing n) s else s
  let s := stations.foldl State.applyExclusion s
  s.deliver c (s.sampleSet c contributing)

end Sys2Proof.Machine
end

