-- ==== Sys2Proof/Machine/Configuration.lean ====
section
/-! DEFINITION. The configuration orders of the blocks: CONFIG_CARRIAGE (R9 to R13), CONFIG_STATION (R17, R18),
CONFIG_PLATES (R68, R69), CONFIG_INTERLOCK (R132), CONFIG_WEATHER (R155) and CONFIG_POWER (R151). -/

namespace Sys2Proof.Machine

/-! ## CONFIG_CARRIAGE -/

/-- R9 step 3: a station of the carriage is DRIVING. -/
def State.anyDriving (s : State) (c : Fin 6) : Bool := (s.stationsOf c).any fun n => (s.st n).state = .driving

/-- R10: the record conflicts with the stations configured on the carriage. -/
def State.conflictsWithStations (s : State) (c : Fin 6) (new : CarriageConfig) : Bool :=
  ((s.stationsOf c).any fun n => new.railCount ≤ (s.stCfg n).rail.val) ||
  (decide (new.ring ≠ (s.cfg c).ring) && !(s.stationsOf c).isEmpty)

/-- R11: creep speed raised above a LOADING or READY station's rated speed takes it to FAULT(IDENTITY). -/
def State.recheckCreep (s : State) (c : Fin 6) (n : Fin 64) : State :=
  let st := s.st n
  let rated := (st.identity.map Identity.ratedSpeed).getD 0
  if (st.state = .loading || st.state = .ready) && decide (rated < (s.cfg c).creepSpeed) then
    s.enterStation n (.fault .identity) .none
  else s

/-- R11, R24: a READY station whose parameter set changed is loaded again; a LOADING one takes the new set. A station
whose set keeps its value is left (log entry 32). -/
def State.recheckParams (s : State) (n : Fin 64) : State :=
  if (s.st n).params = some (s.formParams n) then s
  else
    match (s.st n).state with
    | .ready => s.enterLoading n
    | .loading => s.loadPresent n
    | .unused | .offline | .identifying | .driving | .sidelined _ | .lost | .fault _ | .retired => s

/-- R11: what the changed values mean for the stations of the carriage: every FAULT(IDENTITY) first, then every reload,
each in number order (log entry 31). -/
def State.recheckStations (s : State) (c : Fin 6) (old : CarriageConfig) : State :=
  let s :=
    if old.creepSpeed < (s.cfg c).creepSpeed then (s.stationsOf c).foldl (fun s n => s.recheckCreep c n) s else s
  if old.maxSpeed ≠ (s.cfg c).maxSpeed || old.trimLimit ≠ (s.cfg c).trimLimit then
    (s.stationsOf c).foldl State.recheckParams s
  else s

/-- R12: the rails after a change of the rail count: removed rails lose, added rails start without, their means. -/
def resizeRails (rails : Vector Rail 4) (old new : Nat) : Vector Rail 4 :=
  Vector.ofFn fun r =>
    if min old new ≤ r.val then
      { rails[r] with mean := none, contributors := 0, blind := 0, split := false, written := 0 }
    else rails[r]

/-- R5, R12: P and S from a change of the rail count to the next completion. Added rails have no mean, so both are
absent. With one rail left P is its mean and S is 0 (R5). With two or more left both stand as they were formed over the
old rails, which is the model's choice (log entry 40). -/
def Carriage.placeAfter (k : Carriage) (old new : Nat) : Option Int × Option Int :=
  if old < new then (none, none)
  else if new = 1 then
    let p := k.position.bind fun _ => k.rails[0].mean
    (p, p.map fun _ => 0)
  else (k.position, k.skew)

/-- R12: a change of the rail count: the rails, P and S, and the skew warn arming. -/
def Carriage.resize (k : Carriage) (old new : Nat) : Carriage :=
  if old = new then k
  else
    { k with
      rails := resizeRails k.rails old new
      position := (k.placeAfter old new).1
      skew := (k.placeAfter old new).2
      skewWarnArmed := true }

/-- R9: the checks of CONFIG_CARRIAGE after the carriage number, in their order: the new configuration or the refusal. -/
def State.checkCarriage (s : State) (c : Fin 6) (b : CarriageBody) : Except Result CarriageConfig :=
  if s.saving then .error .refusedBusy
  else if (s.car c).state ≠ .parked || s.anyDriving c then .error .refusedState
  else
    match carriageConfigOf b with
    | none => .error .refusedRange
    | some new =>
      if !new.agrees then .error .refusedRange
      else if s.conflictsWithStations c new then .error .refusedState
      else .ok new

/-- R11, R12, R13: an accepted configuration record. -/
def State.setCarriage (s : State) (c : Fin 6) (new : CarriageConfig) : State :=
  let old := s.cfg c
  let s := { s with settings := { s.settings with carriages := s.settings.carriages.set c new } }
  (s.modCar c (·.resize old.railCount new.railCount)).recheckStations c old

/-- CONFIG_CARRIAGE (R9). -/
def handleConfigCarriage (b : CarriageBody) (s : State) : Reply :=
  match finByte 6 b.carriage with
  | none => s.refuse .refusedRange
  | some c =>
    match s.checkCarriage c b with
    | .error r => s.refuse r
    | .ok new => (s.setCarriage c new).accept

/-! ## CONFIG_STATION -/

/-- R17 step 4: a carriage concerned is not PARKED. -/
def State.concernedMoving (s : State) (n : Fin 64) (new : StationConfig) : Bool :=
  ((s.stCfg n).enabled && decide ((s.car (s.stCfg n).carriage).state ≠ .parked)) ||
  (new.enabled && decide ((s.car new.carriage).state ≠ .parked))

/-- R17 step 5: an enabling order conflicts with the rest of the installation. -/
def State.stationConflicts (s : State) (n : Fin 64) (new : StationConfig) : Bool :=
  let cfg := s.cfg new.carriage
  new.enabled &&
  (decide (cfg.railCount ≤ new.rail.val) ||
   (allStations.any fun m => m ≠ n && s.onRing cfg.ring m && (s.stCfg m).node = new.node) ||
   decide ((s.ringCfg cfg.ring).nodes ≤ new.node.val) ||
   decide (24 ≤ ((s.stationsOf new.carriage).filter fun m => m ≠ n).length))

/-- R70: a changed mount offset takes a SEEDED station to kind NONE without a base. -/
def Reckoning.remounted (k : Reckoning) : Reckoning :=
  match k.kind with
  | .seeded => { k with kind := .none, base := none }
  | .referenced | .none => k

/-- The configuration of a station replaced. -/
def State.withStation (s : State) (n : Fin 64) (new : StationConfig) : State :=
  { s with settings := { s.settings with stations := s.settings.stations.set n new } }

/-- R18: an accepted CONFIG_STATION. -/
def State.setStation (s : State) (n : Fin 64) (new : StationConfig) : State :=
  let old := s.stCfg n
  if !old.enabled then
    if new.enabled then (s.withStation n new).putOut n new.carriage .offline .config else s.withStation n new
  else if !new.enabled then ((s.dropRequests n).withStation n new).putOut n old.carriage .unused .config
  else if (s.st n).state = .retired then s.withStation n new
  else if old.carriage ≠ new.carriage || old.rail ≠ new.rail || old.node ≠ new.node then
    ((s.dropRequests n).withStation n new).putOut n old.carriage .offline .config
  else if old.mount ≠ new.mount then
    (s.withStation n new).modSt n fun st => { st with reckoning := st.reckoning.remounted }
  else s.withStation n new

/-- R17: the checks of CONFIG_STATION after the station number. -/
def State.checkStation (s : State) (n : Fin 64) (b : StationBody) : Except Result StationConfig :=
  if s.saving then .error .refusedBusy
  else
    match stationConfigOf b with
    | none => .error .refusedRange
    | some new =>
      if s.concernedMoving n new then .error .refusedState
      else if s.stationConflicts n new then .error .refusedState
      else .ok new

/-- CONFIG_STATION (R17). -/
def handleConfigStation (b : StationBody) (s : State) : Reply :=
  match finByte 64 b.station with
  | none => s.refuse .refusedRange
  | some n =>
    match s.checkStation n b with
    | .error r => s.refuse r
    | .ok new => (s.setStation n new).accept

/-! ## CONFIG_PLATES -/

/-- R68 step 5: every entry, or `none` when one is out of range. -/
def plateEntriesOf : List PlateBody → Option (List (Option Plate))
  | [] => some []
  | b :: bs =>
    match plateEntryOf b, plateEntriesOf bs with
    | some e, some es => some (e :: es)
    | some _, none => none
    | none, _ => none

/-- R68: entries written into consecutive indexes. -/
def writePlates (t : PlateTable) (i : Nat) : List (Option Plate) → PlateTable
  | [] => t
  | e :: es => writePlates (t.setIfInBounds i e) (i + 1) es

/-- Some value stands twice in a list. -/
def repeats : List Half → Bool
  | [] => false
  | x :: xs => xs.contains x || repeats xs

/-- R68 step 6: the plate ids of a table. -/
def plateIds (t : PlateTable) : List Half := t.toList.filterMap fun e => e.map Plate.id

/-- R69: a station whose base plate is no longer valid for it loses it. -/
def State.reexamine (s : State) (n : Fin 64) : State :=
  match (s.st n).reckoning.base with
  | some (.plate id) => if (s.plateFor n id).isNone then s.losePlate n id else s
  | some (.seed _) | none => s

/-- R68: the checks of CONFIG_PLATES after the carriage number: the new table or the refusal. -/
def State.checkPlates (s : State) (c : Fin 6) (b : PlatesBody) : Except Result PlateTable :=
  if s.saving then .error .refusedBusy
  else if (s.car c).state ≠ .parked then .error .refusedState
  else if 127 < b.start.toNat || 128 < b.start.toNat + b.entries.length then .error .refusedRange
  else
    match plateEntriesOf b.entries with
    | none => .error .refusedRange
    | some es =>
      let t := writePlates s.settings.plates[c] b.start.toNat es
      if repeats (plateIds t) then .error .refusedRange else .ok t

/-- R68, R69: an accepted CONFIG_PLATES. R69 names no order among the stations it re-examines; they are taken in number
order (log entry 39). -/
def State.setPlates (s : State) (c : Fin 6) (t : PlateTable) : State :=
  let s := { s with settings := { s.settings with plates := s.settings.plates.set c t } }
  (s.stationsOf c).foldl State.reexamine s

/-- CONFIG_PLATES (R68). An entry count of 0 or above 20 fails the format check (R173). -/
def handleConfigPlates (b : PlatesBody) (s : State) : Reply :=
  if b.entries.length = 0 || 20 < b.entries.length then s.refuse .refusedFormat
  else
    match finByte 6 b.carriage with
    | none => s.refuse .refusedRange
    | some c =>
      match s.checkPlates c b with
      | .error r => s.refuse r
      | .ok t => (s.setPlates c t).accept

/-! ## CONFIG_INTERLOCK -/

/-- R132 step 5: carriage A or B of an enabled entry is not PARKED. -/
def State.entryMoving (s : State) (e : Interlock) : Bool :=
  e.enabled && (decide ((s.car e.carriageA).state ≠ .parked) || decide ((s.car e.carriageB).state ≠ .parked))

/-- R132: the checks of CONFIG_INTERLOCK after the index. -/
def State.checkInterlock (s : State) (i : Fin 16) (b : InterlockBody) : Except Result Interlock :=
  if s.saving then .error .refusedBusy
  else
    match interlockOf b with
    | none => .error .refusedRange
    | some e =>
      if e.carriageA = e.carriageB then .error .refusedRange
      else if s.entryMoving s.settings.interlocks[i] || s.entryMoving e then .error .refusedState
      else .ok e

/-- CONFIG_INTERLOCK (R132). -/
def handleConfigInterlock (b : InterlockBody) (s : State) : Reply :=
  match finByte 16 b.index with
  | none => s.refuse .refusedRange
  | some i =>
    match s.checkInterlock i b with
    | .error r => s.refuse r
    | .ok e => State.accept { s with settings := { s.settings with interlocks := s.settings.interlocks.set i e } }

/-! ## CONFIG_WEATHER -/

/-- R155: an anemometer turned off or on starts with an empty window, the mark UNKNOWN and no pulse. -/
def switchAnemometer (before after : Bool) (a : Anemometer) : Anemometer := if before = after then a else {}

/-- R155: an accepted SITE part. -/
def State.setSite (s : State) (new : SiteSettings) : State :=
  let old := s.settings.site
  let anemometers := Vector.ofFn fun w =>
    switchAnemometer old.enabled[w] new.enabled[w] s.weather.anemometers[w]
  { s with settings := { s.settings with site := new }, weather := { s.weather with anemometers := anemometers } }

/-- CONFIG_WEATHER with a body of the site-part length (R155, R173). -/
def handleWeatherSite (b : SiteBody) (s : State) : Reply :=
  if b.selector.toNat < 6 then s.refuse .refusedFormat
  else if b.selector ≠ 0xFF then s.refuse .refusedRange
  else if s.saving then s.refuse .refusedBusy
  else
    match siteSettingsOf b with
    | none => s.refuse .refusedRange
    | some new => if new.agrees then (s.setSite new).accept else s.refuse .refusedRange

/-- R155: the checks of a carriage part after the selector. -/
def State.checkResponses (s : State) (c : Fin 6) (b : ResponseBody) : Except Result Responses :=
  if s.saving then .error .refusedBusy
  else
    match responsesOf b with
    | none => .error .refusedRange
    | some r =>
      if !responsesAgree r then .error .refusedRange
      else if (s.car c).state ≠ .parked then .error .refusedState
      else .ok r

/-- CONFIG_WEATHER with a body of the carriage-part length (R155, R173). -/
def handleWeatherCarriage (b : ResponseBody) (s : State) : Reply :=
  if b.selector = 0xFF then s.refuse .refusedFormat
  else
    match finByte 6 b.selector with
    | none => s.refuse .refusedRange
    | some c =>
      match s.checkResponses c b with
      | .error r => s.refuse r
      | .ok new => State.accept { s with settings := { s.settings with responses := s.settings.responses.set c new } }

/-! ## CONFIG_POWER -/

/-- CONFIG_POWER (R151): a raised budget prompts a grant attempt. -/
def handleConfigPower (b : Half) (s : State) : Reply :=
  match natIn 0 20000 b with
  | none => s.refuse .refusedRange
  | some budget =>
    if s.saving then s.refuse .refusedBusy
    else if budget < s.arbiter.grantedSum then s.refuse .refusedState
    else if s.arbiter.queue.any fun w => decide (budget < w.need) then s.refuse .refusedState
    else
      let raised := decide (s.settings.budget < budget)
      let s := { s with settings := { s.settings with budget := budget } }
      if raised then (s.send .grantAttempt).accept else s.accept

/-! ## The meanings -/

/-- CONFIG_CARRIAGE (R9 to R13). -/
def execConfigCarriage (tag : Byte) (b : Body CarriageBody) (s : State) : Host.Outcome State Fault Refusal :=
  order 0x08 tag b handleConfigCarriage s

/-- CONFIG_STATION (R17, R18). -/
def execConfigStation (tag : Byte) (b : Body StationBody) (s : State) : Host.Outcome State Fault Refusal :=
  order 0x09 tag b handleConfigStation s

/-- CONFIG_PLATES (R68, R69). -/
def execConfigPlates (tag : Byte) (b : Body PlatesBody) (s : State) : Host.Outcome State Fault Refusal :=
  order 0x0A tag b handleConfigPlates s

/-- CONFIG_INTERLOCK (R132). -/
def execConfigInterlock (tag : Byte) (b : Body InterlockBody) (s : State) : Host.Outcome State Fault Refusal :=
  order 0x0B tag b handleConfigInterlock s

/-- CONFIG_WEATHER_SITE (R155). -/
def execConfigWeatherSite (tag : Byte) (b : Body SiteBody) (s : State) : Host.Outcome State Fault Refusal :=
  order 0x0C tag b handleWeatherSite s

/-- CONFIG_WEATHER_CARRIAGE (R155). -/
def execConfigWeatherCarriage (tag : Byte) (b : Body ResponseBody) (s : State) : Host.Outcome State Fault Refusal :=
  order 0x0C tag b handleWeatherCarriage s

/-- CONFIG_POWER (R151). -/
def execConfigPower (tag : Byte) (b : Body Half) (s : State) : Host.Outcome State Fault Refusal :=
  order 0x0D tag b handleConfigPower s

end Sys2Proof.Machine
end

