-- ==== Sys2Proof/Machine/Engine.lean ====
section
/-! DEFINITION. The carriage engines (Chapters 5 to 7): the control step in its nine parts, the messages an engine
takes, and its timers. -/

namespace Sys2Proof.Machine

/-! ## Limits and increments (R115, R116) -/

/-- R116: a rate as an increment per step of T ms. -/
def stepIncrement (rate period : Nat) : Nat := max 1 (rate * period / 1000)

/-- R115, R163: the wind cap of a configuration. -/
def windCap (cfg : CarriageConfig) (cap : Nat) : Nat := max cfg.creepSpeed (cfg.maxSpeed * cap / 100)

/-- R115: the speed limit of a step in MOVING. -/
def speedLimit (cfg : CarriageConfig) (o : Order) (w : Response) : Nat :=
  let base := min o.speedLimit cfg.maxSpeed
  let capped :=
    match w.action with
    | .cap | .noStart => min base (windCap cfg w.cap)
    | .none | .hold => base
  if o.isSeek then min capped cfg.creepSpeed else capped

/-! ## The speed step (R117 to R123) -/

/-- What a speed step in MOVING decides: the new commanded speed and whether the carriage arrives at its target, at an
interlock limit, or goes on. -/
inductive StepEnd | goesOn | arrived | atLimit
  deriving DecidableEq, Repr

/-- The outcome of a speed step: speed, and how it ends. -/
structure SpeedStep where
  v : Int
  ending : StepEnd
  deriving DecidableEq, Repr

/-- v_new = max(0, v_prev − dec) in the present direction of motion (R115, R117, R119, R120, R123, R136, R137). -/
def slowed (v : Int) (dec : Nat) : Int :=
  if 0 ≤ v then ((v.natAbs - dec : Nat) : Int) else -((v.natAbs - dec : Nat) : Int)

/-- R118: the new magnitude toward the target; `brk` is the braking speed, absent for a SEEK. -/
def rampedSpeed (vLim vPrev inc dec creepEff : Nat) (brk : Option Nat) : Nat :=
  let first := min vLim (vPrev + inc)
  let first :=
    match brk with
    | some b => min first (max b creepEff)
    | none => first
  max first (vPrev - dec)

/-- R118: the braking speed. -/
def brakingSpeed (deceleration dist : Nat) : Nat := isqrt (2 * deceleration * dist)

/-- The quantities of a speed step in MOVING. -/
structure SpeedInputs where
  v : Int
  vLim : Nat
  inc : Nat
  dec : Nat
  creepEff : Nat
  lastDirection : Option Direction
  dwellRun : Bool
  deriving DecidableEq, Repr

/-- R117 cases 2 to 4: against the motion (R120), during the dwell (R121), or the step `ahead` toward the target. -/
def towardTarget (i : SpeedInputs) (d : Direction) (ahead : SpeedStep) : SpeedStep :=
  if directionOf i.v = some d.opposite then ⟨slowed i.v i.dec, .goesOn⟩
  else if i.v = 0 && i.lastDirection = some d.opposite && !i.dwellRun then ⟨0, .goesOn⟩
  else ahead

/-- R118: travel toward the target. -/
def travelStep (i : SpeedInputs) (d : Direction) (brk : Option Nat) : SpeedStep :=
  ⟨d.signed (rampedSpeed i.vLim i.v.natAbs i.inc i.dec i.creepEff brk), .goesOn⟩

/-- R136, R137: brought to rest at an interlock limit. -/
def haltAtLimit (i : SpeedInputs) : SpeedStep :=
  if i.creepEff < i.v.natAbs then ⟨slowed i.v i.dec, .goesOn⟩ else ⟨0, .atLimit⟩

/-- R117, R137: the step of a SEEK in direction d; at its bound the step of R118 is replaced, those of R120 and R121
are not. -/
def seekStep (i : SpeedInputs) (d : Direction) (atBound : Bool) : SpeedStep :=
  towardTarget i d (if atBound then haltAtLimit i else travelStep i d none)

/-- R119: within the arrival tolerance. -/
def arrivalStep (i : SpeedInputs) (target ordered : Int) : SpeedStep :=
  if i.v.natAbs ≤ i.creepEff then ⟨0, if target = ordered then .arrived else .atLimit⟩
  else ⟨slowed i.v i.dec, .goesOn⟩

/-- R117 to R120: the step of a MOVE that is not pinned, at distance target − p. -/
def moveStep (cfg : CarriageConfig) (i : SpeedInputs) (target ordered p : Int) : SpeedStep :=
  let dist := (target - p).natAbs
  if dist ≤ cfg.arrivalTolerance then arrivalStep i target ordered
  else
    match directionOf (target - p) with
    | some d => towardTarget i d (travelStep i d (some (brakingSpeed cfg.deceleration dist)))
    | none => arrivalStep i target ordered

/-- R121: the fields of the reversal dwell after a speed step from v to new. A step that leaves a speed of 0 at 0 starts
no dwell, the entry to BLOCKED from a speed of 0 included (log entry 36). -/
def Carriage.dwellAfter (k : Carriage) (v new : Int) (dwellMs : Nat) : Carriage :=
  match directionOf new with
  | some d => { k with lastDirection := some d, dwellTimer := none }
  | none =>
    if v = 0 then k
    else if dwellMs = 0 then { k with dwellRun := true }
    else { k with dwellRun := false, dwellTimer := some (msToUs dwellMs) }

/-- R122: the phase of a MOVING carriage after a step. -/
def phaseOf (new vPrev creepEff vLim : Nat) : Phase :=
  if new = 0 then .dwell
  else if vPrev < new then .rampUp
  else if new = creepEff then .creep
  else if new = vLim then .cruise
  else .rampDown

/-! ## Part 2: brake confirmations (R97, R98, R108, R188) -/

/-- Part 2 of a control step. A TRIPPED carriage's stations are judged as they stood after the completion that delivered
the sample set (R188). -/
def State.confirmBrakes (s : State) (c : Fin 6) (m : SampleSet) : State :=
  match (s.car c).state with
  | .releasing =>
    let driven := s.drivenOf c
    if !driven.isEmpty && s.allShow driven Slot.brakeReleased then s.enterState c .moving .released else s
  | .stopping purpose .brake =>
    if s.allShow (s.drivenOf c) Slot.brakeSet then s.leaveStopping c purpose else s
  | .tripped false =>
    if m.tripBraked then
      let marked := (s.car c).brakesUnconfirmed
      let s := s.modCar c fun k =>
        { k with state := .tripped true, setTimer := none, brakesUnconfirmed := false }
      if marked then s.postCarriage c (.tripped false) .brakesConfirmed [] else s
    else s
  | .parked | .awaitPower | .moving | .blocked | .stopping _ .ramp | .held | .tripped true => s

/-! ## Parts 3 and 4: skew and overtravel (R127 to R129) -/

/-- R127: the rail of a list whose mean none of the others betters, the first of the list among equals, which is the
model's choice (log entry 48). -/
def railBy (better : Int → Int → Bool) (m : SampleSet) : List (Fin 4) → Option (Fin 4)
  | [] => none
  | r :: rs =>
    match railBy better m rs, m.rails[r].mean with
    | none, _ => some r
    | some q, some x =>
      match m.rails[q].mean with
      | some y => if better y x then some q else some r
      | none => some r
    | some q, none => some q

/-- R127: part 3 of a control step. -/
def State.skewWarn (s : State) (c : Fin 6) (m : SampleSet) : State :=
  match m.s with
  | none => s
  | some skew =>
    if ((s.cfg c).skewWarn : Int) < skew then
      if (s.car c).skewWarnArmed then
        let rails := s.railsOf c
        let largest := (railBy (fun y x => decide (x < y)) m rails).getD 0
        let smallest := (railBy (fun y x => decide (y < x)) m rails).getD 0
        (s.modCar c fun k => { k with skewWarnArmed := false }).post (.skewWarn c skew largest smallest)
      else s
    else s.modCar c fun k => { k with skewWarnArmed := true }

/-- R128: S above skew trip. -/
def skewTrips (cfg : CarriageConfig) (m : SampleSet) : Bool :=
  match m.s with
  | some skew => (cfg.skewTrip : Int) < skew
  | none => false

/-- R129: P beyond a travel limit by more than the margin. -/
def overtravels (cfg : CarriageConfig) (m : SampleSet) : Bool :=
  match m.p with
  | some p => p < cfg.travelMin - cfg.overtravelMargin || cfg.travelMax + cfg.overtravelMargin < p
  | none => false

/-! ## Part 5: the effective target, and leaving BLOCKED (R135 to R139) -/

/-- R135, R137: the effective target or the SEEK's active entries are formed. Without P the effective target is left as
last formed, while a SEEK's active entries, which decide its bound then, are formed anew (log entry 37). -/
def State.formAtStep (s : State) (c : Fin 6) (t : Task) (m : SampleSet) : State :=
  match t, m.p with
  | .move x, some p => s.formTarget c x (some p)
  | .move _, none => s
  | .seek .., _ => s.modCar c fun k => { k with activeEntries := s.active c }

/-- R139: the carriage leaves BLOCKED. -/
def State.leavesBlocked (s : State) (c : Fin 6) (t : Task) (m : SampleSet) : Bool :=
  match t with
  | .move x =>
    match m.p, (s.car c).effectiveTarget with
    | some p, some target =>
      !(s.car c).pinned && (target = x || (s.cfg c).arrivalTolerance < (target - p).natAbs)
    | some _, none => false
    | none, _ => false
  | .seek d _ => !s.seekAtBound c d m.p

/-- Part 5 of a control step. -/
def State.formTargets (s : State) (c : Fin 6) (m : SampleSet) : State :=
  match (s.car c).order with
  | none => s
  | some o =>
    match (s.car c).state with
    | .moving => s.formAtStep c o.task m
    | .blocked =>
      let s := s.formAtStep c o.task m
      if s.leavesBlocked c o.task m then s.enterState c .moving .unblock else s
    | .parked | .awaitPower | .releasing | .stopping _ _ | .held | .tripped _ => s

/-! ## Part 6: the speed step -/

/-- The round period of a carriage's ring in ms. -/
def State.period (s : State) (c : Fin 6) : Nat := (s.ringCfg (s.cfg c).ring).period

/-- R116: inc of carriage c. -/
def State.inc (s : State) (c : Fin 6) : Nat := stepIncrement (s.cfg c).acceleration (s.period c)

/-- R116: dec of carriage c. -/
def State.dec (s : State) (c : Fin 6) : Nat := stepIncrement (s.cfg c).deceleration (s.period c)

/-- R115: the inputs of a speed step in MOVING under an order. -/
def State.speedInputs (s : State) (c : Fin 6) (o : Order) : SpeedInputs :=
  let k := s.car c
  let cfg := s.cfg c
  let vLim := speedLimit cfg o (s.response c)
  { v := k.vCmd, vLim := vLim, inc := s.inc c, dec := s.dec c, creepEff := min cfg.creepSpeed vLim,
    lastDirection := k.lastDirection, dwellRun := k.dwellRun }

/-- R115 to R121, R136, R137: what the speed step of a MOVING carriage decides. A wind response of HOLD makes the step
of R115 whatever the interlocks say (log entry 35); a MOVE without P slows (R117), pinned or not. -/
def State.decideStep (s : State) (c : Fin 6) (o : Order) (m : SampleSet) : SpeedStep :=
  let k := s.car c
  let i := s.speedInputs c o
  if (s.response c).action = .hold then ⟨slowed i.v i.dec, .goesOn⟩
  else
    match o.task with
    | .seek d _ => seekStep i d (s.seekAtBound c d m.p)
    | .move x =>
      match m.p, k.effectiveTarget with
      | some p, some target => if k.pinned then haltAtLimit i else moveStep (s.cfg c) i target x p
      | some _, none => ⟨slowed i.v i.dec, .goesOn⟩
      | none, _ => ⟨slowed i.v i.dec, .goesOn⟩

/-- R115, R122: the phase a step in MOVING sets. -/
def State.stepPhase (s : State) (c : Fin 6) (i : SpeedInputs) (new : Int) : Phase :=
  if (s.response c).action = .hold then (if new = 0 then .dwell else .rampDown)
  else phaseOf new.natAbs i.v.natAbs i.creepEff i.vLim

/-- R89: entry to the brake stage: the brake set timer starts (R98). -/
def Carriage.brakeStage (k : Carriage) (purpose : Purpose) (timeoutMs : Nat) : Carriage :=
  { k.enter (.stopping purpose .brake) with setTimer := some (msToUs timeoutMs), vCmd := 0 }

/-- R119, R99: arrival: the order ends ARRIVED, STOPPING(END) in the brake stage. -/
def State.arrive (s : State) (c : Fin 6) : State :=
  let before := (s.car c).state
  let s := s.endOrder c .arrived none
  let s := s.modCar c fun k => k.brakeStage .ending (s.cfg c).setTimeout
  s.postCarriage c before .arrived []

/-- The block timer of a configuration: not started with a block timeout of 0 (R138). -/
def CarriageConfig.blockTimer (cfg : CarriageConfig) : Timer :=
  if cfg.blockTimeout = 0 then none else some (sToUs cfg.blockTimeout)

/-- R138: the entry to BLOCKED. -/
def State.block (s : State) (c : Fin 6) : State :=
  let before := (s.car c).state
  let s := s.modCar c fun k => { k.enter .blocked with vCmd := 0, blockTimer := (s.cfg c).blockTimer }
  s.postCarriage c before .block (s.car c).activeEntries

/-- The speed step in MOVING (R115 to R122, R136 to R138). -/
def State.movingStep (s : State) (c : Fin 6) (o : Order) (m : SampleSet) : State :=
  let i := s.speedInputs c o
  let d := s.decideStep c o m
  let s := s.modCar c fun k =>
    { k.dwellAfter k.vCmd d.v (s.cfg c).reversalDwell with vCmd := d.v, phase := some (s.stepPhase c i d.v) }
  match d.ending with
  | .goesOn => s
  | .arrived => s.arrive c
  | .atLimit => s.block c

/-- R123: the largest |speed| the engine looks at for standstill. -/
def State.standstillSpeed (s : State) (c : Fin 6) (m : SampleSet) : Nat :=
  match m.largestSpeed with
  | some v => v
  | none =>
    ((s.drivenOf c).map fun n =>
      match (s.st n).reported with
      | some r => r.slot.speed.natAbs
      | none => 0).foldl max 0

/-- R123: standstill at the stations is found. -/
def State.atStandstill (s : State) (c : Fin 6) (m : SampleSet) : Bool :=
  (s.drivenOf c).isEmpty || s.standstillSpeed c m ≤ (s.cfg c).standstillBand

/-- R123: the speed step in the ramp stage of STOPPING. -/
def State.rampStep (s : State) (c : Fin 6) (purpose : Purpose) (m : SampleSet) : State :=
  let new := slowed (s.car c).vCmd (s.dec c)
  let s := s.modCar c fun k => { k.dwellAfter k.vCmd new (s.cfg c).reversalDwell with vCmd := new }
  if new = 0 && s.atStandstill c m then s.modCar c fun k => k.brakeStage purpose (s.cfg c).setTimeout else s

/-- Part 6 of a control step; outside MOVING and the ramp stage the commanded speed is 0 (R114). -/
def State.speedStep (s : State) (c : Fin 6) (m : SampleSet) : State :=
  match (s.car c).state, (s.car c).order with
  | .moving, some o => s.movingStep c o m
  | .moving, none => s
  | .stopping purpose .ramp, _ => s.rampStep c purpose m
  | .parked, _ | .awaitPower, _ | .releasing, _ | .blocked, _ | .stopping _ .brake, _ | .held, _ | .tripped _, _ =>
    s.modCar c fun k => { k with vCmd := 0 }

/-! ## Part 7: the rail setpoints (R125, R126) -/

/-- R126: trimming runs between trim rails only. -/
def Carriage.seekTrim (k : Carriage) : Bool :=
  k.seeking || (k.seekStop && (k.state = .stopping .ending .ramp || k.state = .stopping .hold .ramp))

/-- R126: the means of the trim rails. -/
def trimMeans (m : SampleSet) (rails : List (Fin 4)) : List Int :=
  rails.filterMap fun r => if m.rails[r].referenced then m.rails[r].mean else none

/-- R125, R126: the position a rail is trimmed against, absent for no trim. -/
def trimCentre (k : Carriage) (m : SampleSet) (rails : List (Fin 4)) (r : Fin 4) : Option Int :=
  if k.seekTrim then
    let ms := trimMeans m rails
    if m.rails[r].referenced && 2 ≤ ms.length then some (rounded ms.sum ms.length) else none
  else m.p

/-- R125: the clamped trim of a rail. -/
def trimOf (cfg : CarriageConfig) (mean centre : Option Int) : Int :=
  match mean, centre with
  | some x, some p => clampInt (-(cfg.trimLimit : Int)) cfg.trimLimit (rounded (cfg.trimGain * (x - p)) 1000)
  | some _, none => 0
  | none, _ => 0

/-- R125: v_r from v_cmd and the trim, clamped by the sign of v_cmd. -/
def trimmedSpeed (v trim : Int) (trimLimit : Nat) : Int :=
  if 0 < v then clampInt 0 (v + trimLimit) (v - trim)
  else if v < 0 then clampInt (v - trimLimit) 0 (v - trim)
  else 0

/-- R125: a setpoint reduced to a rated speed, its sign kept. -/
def ratedSpeedClamp (v : Int) (rated : Nat) : Int := clampInt (-(rated : Int)) rated v

/-- R125: the lowest rated speed of the driven stations of rail r. -/
def State.lowestRated (s : State) (c : Fin 6) (r : Fin 4) : Option Nat :=
  match ((s.drivenOf c).filter fun n => (s.stCfg n).rail = r).map fun n =>
      ((s.st n).identity.map Identity.ratedSpeed).getD 0 with
  | [] => none
  | v :: vs => some (vs.foldl min v)

/-- R125: the setpoint of rail r. -/
def State.railSetpoint (s : State) (c : Fin 6) (m : SampleSet) (r : Fin 4) : Int :=
  let k := s.car c
  let trim := trimOf (s.cfg c) m.rails[r].mean (trimCentre k m (s.railsOf c) r)
  let v := trimmedSpeed k.vCmd trim (s.cfg c).trimLimit
  match s.lowestRated c r with
  | some rated => ratedSpeedClamp v rated
  | none => v

/-- Part 7 of a control step; a rail the carriage does not have is at 0. -/
def State.formSetpoints (s : State) (c : Fin 6) (m : SampleSet) : State :=
  s.modCar c fun k =>
    { k with rails := Vector.ofFn fun r =>
        { k.rails[r] with setpoint := if r.val < (s.cfg c).railCount then s.railSetpoint c m r else 0 } }

/-! ## Part 8: the end of a SEEK (R95) -/

/-- R95: every rail of the carriage carries its referenced mark. -/
def allReferenced (m : SampleSet) (rails : List (Fin 4)) : Bool := rails.all fun r => m.rails[r].referenced

/-- Part 8 of a control step, not made at a step at which the SEEK is at its bound (R137). -/
def State.examineSeek (s : State) (c : Fin 6) (m : SampleSet) : State :=
  match (s.car c).state, (s.car c).order with
  | .moving, some o =>
    match o.task with
    | .move _ => s
    | .seek d distance =>
      if s.seekAtBound c d m.p then s
      else if allReferenced m (s.railsOf c) then s.beginStop c .referenced .seekEnd
      else
        match m.travelled with
        | some t => if distance ≤ t then s.beginStop c .notFound .seekEnd else s
        | none => s
  | .moving, none => s
  | .parked, _ | .awaitPower, _ | .releasing, _ | .blocked, _ | .stopping _ _, _ | .held, _ | .tripped _, _ => s

/-! ## The control step (R113) -/

/-- Parts 5 to 9 of a control step. -/
def State.finishStep (s : State) (c : Fin 6) (m : SampleSet) : State :=
  let s := s.formTargets c m
  let s := s.speedStep c m
  let s := s.formSetpoints c m
  let s := s.examineSeek c m
  s.publish c

/-- Parts 2 to 9 of a control step. -/
def State.runStep (s : State) (c : Fin 6) (m : SampleSet) : State :=
  let s := s.confirmBrakes c m
  let s := s.skewWarn c m
  if (s.car c).state.inMotion && skewTrips (s.cfg c) m then s.trip c .skew
  else if (s.car c).state.inMotion && overtravels (s.cfg c) m then s.trip c .overtravel
  else s.finishStep c m

/-- R113: the parts of a control step. A step that trips does no later part (log entry 12). -/
def State.stepParts (s : State) (c : Fin 6) (m : SampleSet) : State :=
  match m.trip with
  | some cause => if (s.car c).state.inMotion then s.trip c cause else s.runStep c m
  | none => s.runStep c m

/-- R83: the setpoints as they stand are what the engine has written at this control step. -/
def Carriage.noteSetpoints (k : Carriage) : Carriage :=
  { k with rails := k.rails.map fun r => { r with written := r.setpoint } }

/-- R113: the control step of carriage c on a sample set. -/
def State.controlStep (s : State) (c : Fin 6) (m : SampleSet) : State :=
  (s.stepParts c m).modCar c Carriage.noteSetpoints

/-! ## Taking messages (log entry 4) -/

/-- The oldest sample set that waits for carriage c, and the messages that then still wait. -/
def oldestSample (c : Fin 6) : List Post → Option (SampleSet × List Post)
  | [] => none
  | p :: ps =>
    match p with
    | .sample d m =>
      if d = c then some (m, ps) else (oldestSample c ps).map fun r => (r.1, p :: r.2)
    | .trip .. | .hold .. | .cleared .. | .grantAttempt => (oldestSample c ps).map fun r => (r.1, p :: r.2)

/-- R113, R86: the oldest sample set that waits for carriage c arrives at its engine; none does while the carriage's
ring is QUIET. -/
def State.takeSample (s : State) (c : Fin 6) : State :=
  if (s.ring (s.cfg c).ring).state = .quiet then s
  else
    match oldestSample c s.posts with
    | some (m, rest) => ({ s with posts := rest }).controlStep c m
    | none => s

/-- A sample set for carriage c was posted before a message that waits. -/
def sampleBefore (c : Fin 6) (p : Post) (posts : List Post) : Bool :=
  (oldestSample c (posts.takeWhile (· ≠ p))).isSome

/-- A trip cause reaches the engine of carriage c. The cause RING_DOWN comes after the control step on the sample set
that the same completion delivered (R53): while that set waits, the cause is not taken and waits too. -/
def State.receiveTrip (s : State) (c : Fin 6) (cause : TripCause) : State :=
  if cause = .ringDown && sampleBefore c (.trip c cause) s.posts then s
  else (s.takeMessage (.trip c cause)).takeTrip c cause

/-- A hold cause reaches the engine of carriage c. -/
def State.receiveHold (s : State) (c : Fin 6) (cause : HoldCause) : State :=
  (s.takeMessage (.hold c cause)).takeHold c cause

/-- The clearing of a hold cause reaches the engine of carriage c. -/
def State.receiveCleared (s : State) (c : Fin 6) (cause : HoldCause) : State :=
  (s.takeMessage (.cleared c cause)).takeCleared c cause

/-! ## Timers of the engines -/

/-- R97: the brake release timer expires in RELEASING. -/
def State.releaseTimeout (s : State) (c : Fin 6) : State :=
  if (s.car c).releaseTimer.isSome then s.takeTrip c .brakeTimeout else s

/-- R98, R108: the brake set timer expires in STOPPING or in TRIPPED. -/
def State.setTimeout (s : State) (c : Fin 6) : State :=
  if (s.car c).setTimer.isSome then
    match (s.car c).state with
    | .stopping _ _ => s.trip c .brakeTimeout
    | .tripped b =>
      (s.modCar c fun k => { k with setTimer := none, brakesUnconfirmed := true }).postCarriage c (.tripped b)
        .brakesUnconfirmed []
    | .parked | .awaitPower | .releasing | .moving | .blocked | .held => s
  else s

/-- R121: the dwell timer expires. -/
def State.dwellExpiry (s : State) (c : Fin 6) : State :=
  if (s.car c).dwellTimer.isSome then s.modCar c fun k => { k with dwellTimer := none, dwellRun := true } else s

/-- R140: the block timer of a BLOCKED carriage expires. -/
def State.blockExpiry (s : State) (c : Fin 6) : State :=
  if (s.car c).blockTimer.isSome && (s.car c).state = .blocked then s.beginStop c .blocked .blockTimeout else s

/-! ## The meanings -/

/-- CONTROL_STEP (R113). -/
def execControlStep (c : Fin 6) (s : State) : Host.Outcome State Fault Refusal := event s fun s => s.takeSample c

/-- TRIP_CAUSE (R106, R107). -/
def execTripCause (c : Fin 6) (cause : TripCause) (s : State) : Host.Outcome State Fault Refusal :=
  event s fun s => s.receiveTrip c cause

/-- HOLD_CAUSE (R101). -/
def execHoldCause (c : Fin 6) (cause : HoldCause) (s : State) : Host.Outcome State Fault Refusal :=
  event s fun s => s.receiveHold c cause

/-- HOLD_CAUSE_CLEARED (R103). -/
def execHoldCauseCleared (c : Fin 6) (cause : HoldCause) (s : State) : Host.Outcome State Fault Refusal :=
  event s fun s => s.receiveCleared c cause

/-- BRAKE_RELEASE_TIMEOUT (R97). -/
def execBrakeReleaseTimeout (c : Fin 6) (s : State) : Host.Outcome State Fault Refusal :=
  event s fun s => s.releaseTimeout c

/-- BRAKE_SET_TIMEOUT (R98, R108). -/
def execBrakeSetTimeout (c : Fin 6) (s : State) : Host.Outcome State Fault Refusal := event s fun s => s.setTimeout c

/-- DWELL_TIMER_EXPIRY (R121). -/
def execDwellTimerExpiry (c : Fin 6) (s : State) : Host.Outcome State Fault Refusal := event s fun s => s.dwellExpiry c

/-- BLOCK_TIMEOUT (R140). -/
def execBlockTimeout (c : Fin 6) (s : State) : Host.Outcome State Fault Refusal := event s fun s => s.blockExpiry c

end Sys2Proof.Machine
end

