-- ==== Sys2Proof/Machine/Motion.lean ====
section
/-! DEFINITION. The motion orders MOVE, SEEK, STOP, RESUME and CLEAR (Chapter 5). -/

namespace Sys2Proof.Machine

/-! ## MOVE and SEEK (R90 to R94) -/

/-- R90: the order a MOVE makes on a carriage: target clamped into the travel limits (R6), speed limit clamped to max
speed, the clamped mark set when either changed. -/
def moveOrder (cfg : CarriageConfig) (tag : Byte) (target : Int) (limit : Nat) : Order :=
  let x := clampInt cfg.travelMin cfg.travelMax target
  let v := min limit cfg.maxSpeed
  { tag := tag, task := .move x, speedLimit := v, clamped := x ≠ target || v ≠ limit }

/-- R90: the order a SEEK makes on a carriage. -/
def seekOrder (cfg : CarriageConfig) (tag : Byte) (d : Direction) (distance limit : Nat) : Order :=
  let v := min limit cfg.maxSpeed
  { tag := tag, task := .seek d distance, speedLimit := v, clamped := v ≠ limit }

/-- R91 check 3: TRIPPED, STOPPING(HOLD), or HELD with causes present. -/
def Carriage.closedToOrders (k : Carriage) : Bool :=
  match k.state with
  | .tripped _ | .stopping .hold _ => true
  | .held => !k.holds.isEmpty
  | .parked | .awaitPower | .releasing | .moving | .blocked | .stopping .ending _ => false

/-- R91: the states in which an order takes the carriage into AWAIT_POWER. -/
def CarriageState.entersQueue : CarriageState → Bool
  | .parked | .held => true
  | .awaitPower | .releasing | .moving | .blocked | .stopping _ _ | .tripped _ => false

/-- R91: the acceptance checks of a MOVE or SEEK, in their order; `none` when every check passes. -/
def State.acceptCheck (s : State) (c : Fin 6) (limit : Nat) (t : Task) : Option Result :=
  let k := s.car c
  if !(s.cfg c).enabled || s.ringOut c then some .refusedState
  else if s.lines.estop then some .refusedEstop
  else if k.closedToOrders then some (if k.holds.windOnly then .refusedWind else .refusedState)
  else if limit = 0 then some .refusedRange
  else if !s.railsUsable c t (countedState k.state) then some .refusedState
  else if !s.windAllows c t then some .refusedWind
  else if k.state.entersQueue && decide (s.settings.budget < s.need c) then some .refusedPower
  else none

/-- R93: an order replaces the current order of a carriage that stays in its state. -/
def State.replaceOrder (s : State) (c : Fin 6) (o : Order) : State :=
  let s := match (s.car c).order with
    | some old => s.postMoveEnd c old .superseded none
    | none => s
  (s.modCar c fun k => { k with order := some o }).takeTask c o.task

/-- R93: a new order for a HELD carriage: the resume record is discarded and its order superseded. -/
def State.supersedeRecord (s : State) (c : Fin 6) : State :=
  match (s.car c).resume with
  | some m => (s.postMoveEnd c m.order .superseded none).modCar c fun k => { k with resume := none }
  | none => s

/-- R94: an order accepted in STOPPING(END). -/
def State.restartStopping (s : State) (c : Fin 6) (o : Order) (stage : Stage) (reason : CarriageReason) : State :=
  let s := s.modCar c fun k => { k with order := some o }
  let s := s.takeTask c o.task
  match stage with
  | .ramp => s.enterState c .moving reason
  | .brake => s.enterReleasing c reason

/-- R93, R94, R140: an accepted order is taken by the carriage's state. -/
def State.takeOrderTask (s : State) (c : Fin 6) (o : Order) (reason : CarriageReason) : State :=
  match (s.car c).state with
  | .parked => s.enterAwaitPower c o reason
  | .held => (s.supersedeRecord c).enterAwaitPower c o reason
  | .awaitPower | .releasing | .moving => s.replaceOrder c o
  | .blocked =>
    (s.replaceOrder c o).modCar c fun k =>
      { k with blockTimer := if (s.cfg c).blockTimeout = 0 then none else some (sToUs (s.cfg c).blockTimeout) }
  | .stopping .ending stage => s.restartStopping c o stage reason
  | .stopping .hold _ | .tripped _ => s

/-- R90, R91: an order whose fields have passed is checked and taken. -/
def State.acceptOrder (s : State) (c : Fin 6) (limit : Nat) (o : Order) (reason : CarriageReason) : Reply :=
  match s.acceptCheck c limit o.task with
  | some r => s.refuse r
  | none => { state := s.takeOrderTask c o reason, result := if o.clamped then .okClamped else .ok }

/-- MOVE (R90). -/
def handleMove (tag : Byte) (b : MoveBody) (s : State) : Reply :=
  match finByte 6 b.carriage with
  | none => s.refuse .refusedRange
  | some c =>
    s.acceptOrder c b.speedLimit.toNat (moveOrder (s.cfg c) tag b.target.toInt b.speedLimit.toNat) .move

/-- SEEK (R90). -/
def handleSeek (tag : Byte) (b : SeekBody) (s : State) : Reply :=
  match finByte 6 b.carriage with
  | none => s.refuse .refusedRange
  | some c =>
    match directionWord b.direction, natIn 1 20000 b.distance with
    | some d, some distance =>
      s.acceptOrder c b.speedLimit.toNat (seekOrder (s.cfg c) tag d distance b.speedLimit.toNat) .seek
    | some _, none => s.refuse .refusedRange
    | none, _ => s.refuse .refusedRange

/-! ## STOP (R100) -/

/-- R100: STOP in STOPPING(HOLD): the frozen order ends, the cause set is emptied, the purpose becomes END. -/
def State.stopHold (s : State) (c : Fin 6) (stage : Stage) : State :=
  let seek := (s.car c).seeking
  let before := (s.car c).state
  let s := s.endOrder c .stopped none
  let s := s.modCar c fun k => { k.enter (.stopping .ending stage) with seekStop := seek }
  s.postCarriage c before .stop []

/-- R100: STOP in HELD: the record's order ends and the carriage parks. -/
def State.stopHeld (s : State) (c : Fin 6) : State :=
  let s := match (s.car c).resume with
    | some m => s.postMoveEnd c m.order .stopped none
    | none => s
  s.enterState c .parked .stop

/-- R100, R96, R149: STOP in AWAIT_POWER. -/
def State.stopWaiting (s : State) (c : Fin 6) : State :=
  ((s.leaveQueue c).endOrder c .stopped none).enterState c .parked .stop

/-- R100: STOP taken by one carriage's state. -/
def State.stopCarriage (s : State) (c : Fin 6) : State :=
  match (s.car c).state with
  | .parked | .tripped _ | .stopping .ending _ => s
  | .awaitPower => s.stopWaiting c
  | .releasing | .moving | .blocked => s.beginStop c .stopped .stop
  | .stopping .hold stage => s.stopHold c stage
  | .held => s.stopHeld c

/-- STOP (R100): one carriage, or FF hex for all in turn. -/
def handleStop (carriage : Byte) (s : State) : Reply :=
  if carriage = 0xFF then (allCarriages.foldl State.stopCarriage s).accept
  else
    match finByte 6 carriage with
    | none => s.refuse .refusedRange
    | some c => (s.stopCarriage c).accept

/-! ## RESUME (R105) -/

/-- RESUME (R105). -/
def handleResume (carriage : Byte) (s : State) : Reply :=
  match finByte 6 carriage with
  | none => s.refuse .refusedRange
  | some c =>
    let k := s.car c
    match k.state, k.resume with
    | .held, some m =>
      if !k.holds.isEmpty then s.refuse (if k.holds.windOnly then .refusedWind else .refusedState)
      else
        match s.resumeCheck c m.order.task with
        | some r => s.refuse r
        | none => (s.enterAwaitPower c m.order .resume).accept
    | .held, none => s.refuse .refusedState
    | .parked, _ | .awaitPower, _ | .releasing, _ | .moving, _ | .blocked, _ | .stopping _ _, _ | .tripped _, _ =>
      s.refuse .refusedState

/-! ## CLEAR (R109, R28, R34) -/

/-- R109: the stations whose brakes CLEAR examines. -/
def StationState.clearExamines : StationState → Bool
  | .identifying | .loading | .ready | .driving | .sidelined _ | .fault _ => true
  | .unused | .offline | .lost | .retired => false

/-- R109: the conditions of an accepted CLEAR. -/
def State.mayClear (s : State) (c : Fin 6) : Bool :=
  !s.lines.estop &&
  ((s.stationsOf c).all fun n => !(s.st n).state.clearExamines || (s.st n).shows Slot.brakeSet) &&
  !((s.stationsOf c).any fun n => (s.st n).state.isFault && (s.st n).faultStatus)

/-- R34: a FAULT station with its fault status clear is identified afresh. -/
def State.reidentify (s : State) (n : Fin 64) : State :=
  if (s.st n).state.isFault && !(s.st n).faultStatus then s.enumerate n else s

/-- R188: a station of a carriage that leaves TRIPPED is no longer marked as lost since the trip. -/
def State.forgetLoss (s : State) (n : Fin 64) : State := s.modSt n fun st => { st with lostInTrip := false }

/-- R109: a CLEAR that is accepted for a TRIPPED carriage. The driven stations return to READY first (R28), then the
FAULT stations are identified (R34), each in number order; no rule orders the two (log entry 39). -/
def State.clearTrip (s : State) (c : Fin 6) : State :=
  let s := (s.enterState c .parked .clear).returnReady c
  let s := (s.stationsOf c).foldl State.forgetLoss s
  (s.stationsOf c).foldl State.reidentify s

/-- CLEAR (R109). -/
def handleClear (carriage : Byte) (s : State) : Reply :=
  match finByte 6 carriage with
  | none => s.refuse .refusedRange
  | some c =>
    if (s.car c).state.isTripped then
      if s.mayClear c then (s.clearTrip c).accept else s.refuse .refusedState
    else s.accept

/-! ## The meanings -/

/-- MOVE (R90 to R94). -/
def execMove (tag : Byte) (b : Body MoveBody) (s : State) : Host.Outcome State Fault Refusal :=
  order 0x10 tag b (handleMove tag) s

/-- SEEK (R90 to R94). -/
def execSeek (tag : Byte) (b : Body SeekBody) (s : State) : Host.Outcome State Fault Refusal :=
  order 0x11 tag b (handleSeek tag) s

/-- STOP (R100). -/
def execStop (tag : Byte) (b : Body Byte) (s : State) : Host.Outcome State Fault Refusal := order 0x12 tag b handleStop s

/-- RESUME (R105). -/
def execResume (tag : Byte) (b : Body Byte) (s : State) : Host.Outcome State Fault Refusal :=
  order 0x13 tag b handleResume s

/-- CLEAR (R109). -/
def execClear (tag : Byte) (b : Body Byte) (s : State) : Host.Outcome State Fault Refusal :=
  order 0x14 tag b handleClear s

end Sys2Proof.Machine
end

