-- ==== Sys2Proof/Machine/Queries.lean ====
section
/-! DEFINITION. The query orders (R14, R35, R65, R152, R165, R175): each answers the records as they stand at the
handling and changes nothing. -/

namespace Sys2Proof.Machine

/-- A query answered OK with its data. -/
def State.report (s : State) (data : AnswerData) : Reply := { state := s, result := .ok, data := data }

/-- R14, R142: the interlock entries that name carriage c as A or as B, from a start index. -/
def State.entriesNaming (s : State) (c : Fin 6) (start : Nat) : List (Fin 16 × Interlock) :=
  (allEntries.filter fun i =>
    start ≤ i.val && (s.settings.interlocks[i].carriageA = c || s.settings.interlocks[i].carriageB = c)).map
    fun i => (i, s.settings.interlocks[i])

/-- QUERY_CARRIAGE (R14, R172). -/
def handleQueryCarriage (b : CarriageQuery) (s : State) : Reply :=
  match finByte 6 b.carriage with
  | none => s.refuse .refusedRange
  | some c =>
    if 15 < b.start.toNat then s.refuse .refusedRange
    else if b.view = 0 then s.report (.carriageLive (s.cfg c) (s.car c))
    else if b.view = 1 then s.report (.carriageConfig (s.cfg c) (s.entriesNaming c b.start.toNat))
    else s.refuse .refusedRange

/-- QUERY_STATION (R35). -/
def handleQueryStation (station : Byte) (s : State) : Reply :=
  match finByte 64 station with
  | none => s.refuse .refusedRange
  | some n => s.report (.station (s.stCfg n) (s.st n))

/-- QUERY_RING (R65). -/
def handleQueryRing (ring : Byte) (s : State) : Reply :=
  match ringWord ring with
  | none => s.refuse .refusedRange
  | some r => s.report (.ring (s.ringCfg r) (s.ring r))

/-- R165: the window of an anemometer; a disabled one returns an empty window. -/
def State.windowOf (s : State) (w : Fin 4) : List Sample :=
  if s.settings.site.enabled[w] then s.weather.anemometers[w].window else []

/-- QUERY_WEATHER (R165). -/
def handleQueryWeather (selector : Byte) (s : State) : Reply :=
  if selector = 0xFF then
    s.report (.site { weather := s.weather, settings := s.settings.site, responses := s.settings.responses })
  else
    match finByte 4 selector with
    | none => s.refuse .refusedRange
    | some w => s.report (.window (s.windowOf w))

/-- R152: what QUERY_POWER reports. -/
def State.powerReport (s : State) : PowerReport :=
  { budget := s.settings.budget, arbiter := s.arbiter, states := Vector.ofFn fun c => (s.car c).state }

/-- QUERY_POWER (R152). -/
def handleQueryPower (_ : Unit) (s : State) : Reply := s.report (.power s.powerReport)

/-! ## The meanings -/

/-- QUERY_CARRIAGE (R14). -/
def execQueryCarriage (tag : Byte) (b : Body CarriageQuery) (s : State) : Host.Outcome State Fault Refusal :=
  order 0x20 tag b handleQueryCarriage s

/-- QUERY_STATION (R35). -/
def execQueryStation (tag : Byte) (b : Body Byte) (s : State) : Host.Outcome State Fault Refusal :=
  order 0x21 tag b handleQueryStation s

/-- QUERY_RING (R65). -/
def execQueryRing (tag : Byte) (b : Body Byte) (s : State) : Host.Outcome State Fault Refusal :=
  order 0x22 tag b handleQueryRing s

/-- QUERY_WEATHER (R165). -/
def execQueryWeather (tag : Byte) (b : Body Byte) (s : State) : Host.Outcome State Fault Refusal :=
  order 0x23 tag b handleQueryWeather s

/-- QUERY_POWER (R152). -/
def execQueryPower (tag : Byte) (b : Body Unit) (s : State) : Host.Outcome State Fault Refusal :=
  order 0x24 tag b handleQueryPower s

end Sys2Proof.Machine
end

