-- ==== Sys2Proof/Machine/Coding.lean ====
section
/-! DEFINITION. The link check (R168), the coding of fields (R172), the records of the settings as bytes, and the check
of a settings image (R183). -/

namespace Sys2Proof.Machine

/-! ## The link check (R168) -/

/-- One bit of the check: the generator is 1021 hex. -/
def crcBit (crc : Half) (bit : Bool) : Half :=
  let shifted := crc <<< 1
  if crc.msb ^^ bit then shifted ^^^ 0x1021 else shifted

/-- The bits of a byte, most significant first. -/
def bitsOf (b : Byte) : List Bool := [7, 6, 5, 4, 3, 2, 1, 0].map fun i => b.getLsbD i

/-- One byte of the check. -/
def crcByte (crc : Half) (b : Byte) : Half := (bitsOf b).foldl crcBit crc

/-- R168: the CRC-16 of a list of bytes. -/
def crc16 (bytes : List Byte) : Half := bytes.foldl crcByte 0xFFFF

/-- The two bytes of a half, high byte first. -/
def halfBytes (x : Half) : List Byte := [x.extractLsb' 8 8, x.extractLsb' 0 8]

/-- The four bytes of a word, high byte first. -/
def wordBytes (x : Word) : List Byte :=
  [x.extractLsb' 24 8, x.extractLsb' 16 8, x.extractLsb' 8 8, x.extractLsb' 0 8]

/-! ## The coding of fields (R172) -/

/-- A number of one byte. -/
def put1 (n : Nat) : List Byte := [BitVec.ofNat 8 n]

/-- A number of two bytes. -/
def put2 (n : Nat) : List Byte := halfBytes (BitVec.ofNat 16 n)

/-- A number of four bytes. -/
def put4 (n : Nat) : List Byte := wordBytes (BitVec.ofNat 32 n)

/-- A signed number of two bytes. -/
def putI2 (n : Int) : List Byte := halfBytes (BitVec.ofInt 16 n)

/-- A signed number of four bytes. -/
def putI4 (n : Int) : List Byte := wordBytes (BitVec.ofInt 32 n)

/-- A mark: off 0, on 1. -/
def putBool (b : Bool) : List Byte := [if b then 1 else 0]

/-- An optional field: a presence byte, then the value when present. -/
def putOpt {α : Type} (f : α → List Byte) : Option α → List Byte
  | some x => 1 :: f x
  | none => [0]

/-- A list: a count byte, then the elements. -/
def putList {α : Type} (f : α → List Byte) (xs : List α) : List Byte := put1 xs.length ++ xs.flatMap f

/-- A timer: stopped 0, or running 1 with its time left in ms (four bytes). -/
def putTimer (t : Timer) : List Byte := putOpt (fun us => put4 (us / 1000)) t

/-! ## The settings -/

/-- OUTWARD 0, INWARD 1. -/
def directionCode : Direction → Nat
  | .outward => 0
  | .inward => 1

/-- LEAF 0, TRAY 1. -/
def kindCode : CarriageKind → Nat
  | .leaf => 0
  | .tray => 1

/-- A 0, B 1 (R172). -/
def ringNumber : RingId → Nat
  | .a => 0
  | .b => 1

/-- R8: a configuration record, its fields in their order. -/
def putCarriageConfig (k : CarriageConfig) : List Byte :=
  putBool k.enabled ++ put1 (kindCode k.kind) ++ put1 (ringNumber k.ring) ++ put1 k.railCount ++
  putI4 k.travelMin ++ putI4 k.travelMax ++ putI4 k.refuge ++ put2 k.maxSpeed ++ put1 k.creepSpeed ++
  put1 k.acceleration ++ put1 k.deceleration ++ put2 k.trimGain ++ put1 k.trimLimit ++ put2 k.skewWarn ++
  put2 k.skewTrip ++ put2 k.deviationLimit ++ put2 k.slipLimit ++ put1 k.arrivalTolerance ++
  put1 k.standstillBand ++ put2 k.overtravelMargin ++ put2 k.reversalDwell ++ put2 k.releaseTimeout ++
  put2 k.setTimeout ++ put1 k.blindTolerance ++ put1 k.minStations ++ put2 k.blockTimeout ++ put2 k.grantTimeout ++
  put1 k.priority ++ putBool k.resumeWind ++ putBool k.resumeLoss

/-- R131: an interlock entry, its fields in their order. -/
def putInterlock (e : Interlock) : List Byte :=
  putBool e.enabled ++ put1 e.carriageA.val ++ put1 (directionCode e.directionA) ++ putI4 e.limitA ++
  put1 e.carriageB.val ++ put1 (directionCode e.directionB) ++ putI4 e.thresholdB

/-- R16: the station's configuration. -/
def putStationConfig (k : StationConfig) : List Byte :=
  putBool k.enabled ++ put1 k.carriage.val ++ put1 k.rail.val ++ put1 k.node.val ++ putI4 k.mount

/-- A response: its action and cap %. -/
def putResponse (r : Response) : List Byte := put1 r.action.severity ++ put1 r.cap

/-- R154: the site settings. -/
def putSite (k : SiteSettings) : List Byte :=
  k.enabled.toList.flatMap putBool ++ k.gain.toList.flatMap put2 ++ k.gust.toList.flatMap put2 ++
  k.mean.toList.flatMap put2 ++ put1 k.hysteresis ++ put2 k.descentDwell ++ put1 k.blindLevel.val ++
  put1 k.startLevel.val

/-- R67: an entry of a plate table: id, position and mask; an empty index has the id 0. -/
def putPlate : Option Plate → List Byte
  | some p => halfBytes p.id ++ putI4 p.position ++ put1 p.mask.toNat
  | none => List.replicate 7 0

/-- R40: the five settings of a ring. -/
def putRingSettings (g : RingSettings) : List Byte :=
  put1 g.period ++ put1 g.nodes ++ put2 g.sampleLead ++ put2 g.ageLimit ++ put1 g.lossLimit

/-- R178: the notice settings. -/
def putNoticeSettings (n : NoticeSettings) : List Byte :=
  putBool n.master ++ n.classes.toList.flatMap (fun k => put1 k.val) ++ put2 n.silence

/-- R183: the whole of the working settings, in the order of its list. -/
def putSettings (k : Settings) : List Byte :=
  k.carriages.toList.flatMap putCarriageConfig ++ k.stations.toList.flatMap putStationConfig ++
  k.plates.toList.flatMap (fun t => t.toList.flatMap putPlate) ++ k.interlocks.toList.flatMap putInterlock ++
  putRingSettings k.ringA ++ putRingSettings k.ringB ++ putSite k.site ++
  k.responses.toList.flatMap (fun r => r.toList.flatMap putResponse) ++ put2 k.budget ++ putNoticeSettings k.notices

/-! ## Settings images (R183) -/

/-- The bytes of an image that its check covers: the generation, then the settings as R172 codes fields (log entry
16). -/
def imageBytes (generation : Nat) (settings : Settings) : List Byte := put4 generation ++ putSettings settings

/-- R183: an image is valid when its check, of the same form as the link check, agrees. -/
def Image.valid (i : Image) : Bool := i.check = crc16 (imageBytes i.generation i.settings)

/-- R183, R184: the image of these settings with this generation, its check formed. -/
def imageOf (generation : Nat) (settings : Settings) : Image :=
  { generation := generation, settings := settings, check := crc16 (imageBytes generation settings) }

end Sys2Proof.Machine
end

