-- ==== Sys2Proof/Machine/Resets.lean ====
section
/-! DEFINITION. The Settings Store (R183, R184), the two ways of starting afresh (R185), the emergency stop line (R110,
R111, R186), and the supply. -/

namespace Sys2Proof.Machine

/-! ## SAVE and the end of its write (R184) -/

/-- R183: the largest generation number. -/
def lastGeneration : Nat := 4294967295

/-- R184 check 2: the states that refuse a SAVE. -/
def CarriageState.refusesSave : CarriageState → Bool
  | .awaitPower | .releasing | .moving | .blocked | .stopping _ _ => true
  | .parked | .held | .tripped _ => false

/-- R184: the slot that is not the current slot. -/
def StoreSlot.other : StoreSlot → StoreSlot
  | .slot0 => .slot1
  | .slot1 => .slot0

/-- A slot's contents replaced. -/
def Store.put (t : Store) (slot : StoreSlot) (image : Option Image) : Store :=
  match slot with
  | .slot0 => { t with slot0 := image }
  | .slot1 => { t with slot1 := image }

/-- R184: the checks of SAVE. -/
def State.checkSave (s : State) : Option Result :=
  if s.saving then some .refusedBusy
  else if s.carriages.toList.any fun k => k.state.refusesSave then some .refusedState
  else if s.store.generation = lastGeneration then some .refusedState
  else none

/-- R184: an accepted SAVE: the image is copied and its write into the slot that is not current begins; the slot holds
no valid image until the write ends (log entry 16). -/
def State.beginSave (s : State) : State :=
  let image := imageOf (s.store.generation + 1) s.settings
  { s with store := { s.store.put s.store.current.other none with write := some image } }

/-- SAVE (R184). -/
def handleSave (_ : Unit) (s : State) : Reply :=
  match s.checkSave with
  | some r => s.refuse r
  | none => s.beginSave.accept

/-- R184: the end of the write, with the result of the read-back. -/
def State.endSave (s : State) (good : Bool) : State :=
  match s.store.write with
  | none => s
  | some image =>
    let slot := s.store.current.other
    if good then
      State.post { s with store := { s.store.put slot (some image) with
                                       generation := image.generation, current := slot, write := none } }
        (.storeDone (some image.generation))
    else State.post { s with store := { s.store with write := none } } (.storeDone none)

/-! ## RESTART (R185) -/

/-- R185: PARKED, HELD or TRIPPED. -/
def CarriageState.allowsRestart (k : CarriageState) : Bool := !k.refusesSave

/-- RESTART (R185). -/
def handleRestart (_ : Unit) (s : State) : Reply :=
  if s.carriages.toList.all fun k => k.state.allowsRestart then
    State.accept { s with link := { s.link with restartPending := true } }
  else s.refuse .refusedState

/-! ## The values after a reset (R15, R38, R44, R66, R153, R166, R182) -/

/-- R38: a station record after a reset. -/
def startStation (cfg : StationConfig) : Station := { state := if cfg.enabled then .offline else .unused }

/-- R66: a station of the ring is enabled in these settings. -/
def Settings.serves (s : Settings) (r : RingId) : Bool :=
  s.stations.toList.any fun n => n.enabled && s.carriages[n.carriage].ring = r

/-- R66: a ring record after a reset. -/
def startRing (serves : Bool) (cfg : RingSettings) : Ring :=
  if serves then { state := .closed, roundTimer := some (msToUs cfg.period) } else {}

/-- R176, R182: the event flags after a reset. -/
def startFlags (blank : Bool) : BitVec 94 := if blank then setFlag 0 (.ofModule .storeBlank) else 0

/-- R185, R186: ESTOP asserted at the end of a reset is posted then. -/
def State.reportEstop (s : State) : State := if s.lines.estop then s.post (.emergencyStop true) else s

/-- R185: every block takes its reset values for these working settings; `level` is the site level (R166). What the two
resets treat differently is left to them. -/
def State.startAfresh (s : State) (settings : Settings) (level : Fin 4) (blank : Bool) (lines : Lines) : State :=
  State.reportEstop
    { s with
      power := .running
      settings := settings
      carriages := Vector.replicate 6 {}
      stations := Vector.ofFn fun n => startStation settings.stations[n]
      ringA := startRing (settings.serves .a) settings.ringA
      ringB := startRing (settings.serves .b) settings.ringB
      arbiter := {}
      weather := { level := level, wet := lines.rain }
      link := { flags := startFlags blank }
      lines := lines
      fieldTime := 0
      posts := [] }

/-! ## The cold start (R183, R185) -/

/-- R183: the image a cold start loads, and its slot: only a valid image is loaded. -/
def Store.load (t : Store) : Option (Image × StoreSlot) :=
  match t.slot0.filter Image.valid, t.slot1.filter Image.valid with
  | some x, some y => if x.generation < y.generation then some (y, .slot1) else some (x, .slot0)
  | some x, none => some (x, .slot0)
  | none, some y => some (y, .slot1)
  | none, none => none

/-- R167, R186: the line speed the straps set. -/
def baudOf (p : Straps) : Baud :=
  match p.baud0, p.baud1 with
  | false, false => .b57600
  | true, false => .b115200
  | false, true => .b230400
  | true, true => .b115200

/-- R183: the store after a cold start's load; a write in progress is abandoned (R184). -/
def Store.afterLoad (t : Store) : Store :=
  match t.load with
  | some (image, slot) => { t with generation := image.generation, current := slot, write := none }
  | none => { t with generation := 0, current := .slot1, write := none }

/-- R185: a cold start. -/
def State.coldStart (s : State) (lines : Lines) (straps : Straps) : State :=
  let settings := ((s.store.load.map fun x => x.1.settings)).getD {}
  State.startAfresh { s with store := s.store.afterLoad, baud := baudOf straps } settings settings.site.startLevel
    s.store.load.isNone lines

/-! ## The reset of a RESTART (R185) -/

/-- R161, R166: the site level after a RESTART. -/
def State.restartLevel (s : State) : Fin 4 :=
  if s.settings.site.startLevel < s.weather.level then s.weather.level else s.settings.site.startLevel

/-- R185: the reset of a RESTART once its answer has been sent: settings, store, line speed and STORE_BLANK are kept. -/
def State.restartReset (s : State) (lines : Lines) : State :=
  if s.link.restartDue then
    s.startAfresh s.settings s.restartLevel (s.link.flag (.ofModule .storeBlank)) lines
  else s

/-! ## Supply and RESET input (R185) -/

/-- The end of a cold start: the outputs follow and the transmitter is idle or chooses (R187, R180). -/
def afterColdStart (s : State) (lines : Lines) (straps : Straps) : Host.Outcome State Fault Refusal :=
  .next (s.coldStart lines straps).settle

/-- R185, R187: the module is no longer running: READY and MOTION are off. -/
def State.goDark (s : State) (power : Power) : State := { s with power := power, ready := false, motion := false }

/-- R185: loss of the supply; a SAVE write in progress is abandoned, its slot left invalid. -/
def State.losePower (s : State) : State := { s.goDark .off with store := { s.store with write := none } }

/-! ## The emergency stop line (R110, R111, R186) -/

/-- R186, R110: the filtered ESTOP level becomes asserted: flag and notice first, then every engine. -/
def State.assertEstop (s : State) : State :=
  if s.lines.estop then s
  else
    allCarriages.foldl (fun s c => s.takeTrip c .estop)
      (State.post { s with lines := { s.lines with estop := true } } (.emergencyStop true))

/-- R186, R111: the filtered ESTOP level becomes released; no carriage changes state. -/
def State.releaseEstop (s : State) : State :=
  if s.lines.estop then State.post { s with lines := { s.lines with estop := false } } (.emergencyStop false) else s

/-! ## The meanings -/

/-- SAVE (R184). -/
def execSave (tag : Byte) (b : Body Unit) (s : State) : Host.Outcome State Fault Refusal := order 0x03 tag b handleSave s

/-- RESTART (R185). -/
def execRestart (tag : Byte) (b : Body Unit) (s : State) : Host.Outcome State Fault Refusal :=
  order 0x04 tag b handleRestart s

/-- RESTART_RESET (R185). -/
def execRestartReset (lines : Lines) (s : State) : Host.Outcome State Fault Refusal :=
  event s fun s => s.restartReset lines

/-- POWER_ON (R185): the supply comes up; whatever the module was before, it starts cold (log entry 17). -/
def execPowerOn (lines : Lines) (straps : Straps) (s : State) : Host.Outcome State Fault Refusal :=
  afterColdStart s lines straps

/-- RESET_HELD (R185): the module is held; without supply nothing changes. -/
def execResetHeld (s : State) : Host.Outcome State Fault Refusal :=
  match s.power with
  | .running | .held => .next (s.goDark .held)
  | .off => .next s

/-- RESET_RELEASE (R185): a cold start; without supply nothing changes. -/
def execResetRelease (lines : Lines) (straps : Straps) (s : State) : Host.Outcome State Fault Refusal :=
  match s.power with
  | .running | .held => afterColdStart s lines straps
  | .off => .next s

/-- ESTOP_ON (R110). -/
def execEstopOn (s : State) : Host.Outcome State Fault Refusal := event s State.assertEstop

/-- ESTOP_OFF (R111). -/
def execEstopOff (s : State) : Host.Outcome State Fault Refusal := event s State.releaseEstop

/-- STORE_DONE (R184): the result of the read-back is an operand. -/
def execStoreDone (good : Bool) (s : State) : Host.Outcome State Fault Refusal := event s fun s => s.endSave good

/-- POWER_LOSS (R185). -/
def execPowerLoss (s : State) : Host.Outcome State Fault Refusal := .next s.losePower

end Sys2Proof.Machine
end

