-- ==== Sys2Proof/Machine/Rings.lean ====
section
/-! DEFINITION. The Ring Controllers (Chapters 2 and 3): the start of a round, the return of its copies, its
completion, and the ring states. -/

namespace Sys2Proof.Machine

/-! ## The start of a round (R29, R45, R89) -/

/-- R89: the command a carriage sends to its driven stations. -/
def CarriageState.command : CarriageState → Command
  | .parked | .awaitPower | .held => .idleBraked
  | .releasing => .release
  | .moving | .blocked => .run
  | .stopping _ .ramp => .run
  | .stopping _ .brake => .setBrake
  | .tripped false => .quickStop
  | .tripped true => .idleBraked

/-- R89: the states in which driven stations receive their rail's setpoint. -/
def CarriageState.sendsSetpoint : CarriageState → Bool
  | .moving | .stopping _ .ramp => true
  | .parked | .awaitPower | .releasing | .blocked | .stopping _ .brake | .held | .tripped _ => false

/-- IDLE_BRAKED with setpoint 0 (R29). -/
def idleDownlink : Downlink := ⟨.idleBraked, 0⟩

/-- R29: the command and setpoint for a station as it stands. -/
def State.downlinkFor (s : State) (n : Fin 64) : Downlink :=
  let k := s.car (s.home n)
  match (s.st n).state with
  | .driving | .sidelined _ =>
    ⟨k.state.command, if k.state.sendsSetpoint then k.rails[(s.stCfg n).rail].setpoint else 0⟩
  | .fault _ => if k.state.isTripped then ⟨k.state.command, 0⟩ else idleDownlink
  | .unused | .offline | .identifying | .loading | .ready | .lost | .retired => idleDownlink

/-- The enabled station at a node of a ring (R16: each node number appears once). -/
def State.occupant (s : State) (r : RingId) (node : Fin 40) : Option (Fin 64) :=
  allStations.find? fun n => s.onRing r n && (s.stCfg n).node = node

/-- R29, R45: the downlink part of the slot of a node. -/
def State.downlinkAt (s : State) (r : RingId) (node : Fin 40) : Downlink :=
  match s.occupant r node with
  | some n => s.downlinkFor n
  | none => idleDownlink

/-- The nodes 0 to N − 1 of a ring. -/
def State.nodesOf (s : State) (r : RingId) : List (Fin 40) :=
  allNodes.filter fun node => node.val < (s.ringCfg r).nodes

/-- The service request the next round carries: the head of the queue (R45, R62). -/
def State.headRequest (s : State) (r : RingId) : Option Carried :=
  match (s.ring r).queue with
  | [] => none
  | q :: _ => some { station := q.station, node := (s.stCfg q.station).node, kind := q.kind, data := q.data,
                     live := true }

/-- R62: the attempts of the head rise by 1. -/
def countAttempt : List Request → List Request
  | [] => []
  | q :: rest => { q with attempts := q.attempts + 1 } :: rest

/-- R45: the round a ring sends now. -/
def State.newRound (s : State) (r : RingId) : Round :=
  let lead := BitVec.ofNat 32 (s.ringCfg r).sampleLead
  { sequence := (s.ring r).sequence + 1
    openMode := (s.ring r).state ≠ .closed
    sendTime := s.fieldTime
    sampleInstant := s.fieldTime + lead
    request := s.headRequest r
    slots := (s.nodesOf r).map (s.downlinkAt r) }

/-- R45: the commanded fields of a station on the ring become what its slot carries. -/
def State.command (s : State) (r : RingId) (n : Fin 64) : State :=
  if s.onRing r n then
    let d := s.downlinkFor n
    s.modSt n fun st => { st with command := d.command, setpoint := d.setpoint }
  else s

/-- R16: the in-flight set of the station whose LOAD the round carries. -/
def State.markInFlight (s : State) (q : Option Carried) : State :=
  match q with
  | some q => s.modSt q.station fun st => { st with inFlight := q.data }
  | none => s

/-- R45: a round starts. It starts at an expiry of the round timer; round close always comes before the next start
(R40), so no round is in flight then (log entry 22). -/
def State.startRound (s : State) (r : RingId) : State :=
  if (s.ring r).roundTimer.isSome && (s.ring r).inFlight.isNone then
    let round := s.newRound r
    let period := msToUs (s.ringCfg r).period
    let s := s.modRing r fun g =>
      { g with roundTimer := some period, closeTimer := some (3 * period / 4), sequence := round.sequence,
               inFlight := some round, queue := countAttempt g.queue }
    allStations.foldl (fun s n => s.command r n) (s.markInFlight round.request)
  else s

/-! ## What came back (R46 to R48, R51) -/

/-- R47: the hop count of the copy returned on port 1, at most N, and 0 without one. -/
def Round.h1 (f : Round) (nodes : Nat) : Nat :=
  match f.copy1 with
  | some b => min (copyHops b) nodes
  | none => 0

/-- R47: the hop count of the copy returned on port 2, at most N, and 0 without one. -/
def Round.h2 (f : Round) (nodes : Nat) : Nat :=
  match f.copy2 with
  | some b => min (copyHops b) nodes
  | none => 0

/-- R46, R47, R51: the filled slot of node n at the completion, if it is filled. -/
def Round.slotAt (f : Round) (nodes : Nat) (n : Nat) : Option Slot :=
  if nodes ≤ n then none
  else if f.openMode then
    if n < f.h1 nodes then f.copy1.bind fun b => filledSlot b n
    else if nodes - f.h2 nodes ≤ n then f.copy2.bind fun b => filledSlot b n
    else none
  else f.copy2.bind fun b => filledSlot b n

/-- R46, R47: the service answer of the completed round. -/
def Round.answer (f : Round) : Option ServiceAnswer :=
  if f.openMode then
    match f.copy1.bind copyAnswer with
    | some a => some a
    | none => f.copy2.bind copyAnswer
  else f.copy2.bind copyAnswer

/-- At least one copy returned (R58, R59). -/
def Round.returned (f : Round) : Bool := f.copy1.isSome || f.copy2.isSome

/-! ## What a completion brings to a station (R19 to R25, R32, R52, R62) -/

/-- R52: good, or a miss (an unfilled slot, or a downlink miss). -/
def goodSlot (marked : Bool) (sequence : Half) (slot : Option Slot) : Bool :=
  match slot with
  | none => false
  | some x => !marked || x.heard = sequence - 1

/-- R19, R21: the reported fields, the fault status and the misses of a station. -/
def State.takeReport (s : State) (n : Fin 64) (sequence : Half) (marked : Bool) (slot : Option Slot) : State :=
  s.modSt n fun st =>
    { st with
      reported := match slot with
        | some x => some ⟨x, sequence⟩
        | none => st.reported
      faultStatus := match slot with
        | some x => x.driveFault
        | none => st.faultStatus
      misses :=
        if st.state = .retired then st.misses
        else if goodSlot marked sequence slot then 0
        else min 255 (st.misses + 1) }

/-- A filled slot shows a flag. -/
def shownIn (slot : Option Slot) (flag : Slot → Bool) : Bool :=
  match slot with
  | some x => flag x
  | none => false

/-- R21: a drive fault. -/
def State.faultOutcome (s : State) (n : Fin 64) (slot : Option Slot) : State :=
  if shownIn slot Slot.driveFault then
    match (s.st n).state with
    | .unused | .retired | .fault .drive => s
    | .fault .identity | .fault .load => s.modSt n fun st => { st with state := .fault .drive }
    | .offline | .identifying | .loading | .ready | .driving | .sidelined _ | .lost =>
      s.enterStation n (.fault .drive) .none
  else s

/-- The states that can go LOST (R20). -/
def StationState.canBeLost : StationState → Bool
  | .identifying | .loading | .ready | .driving | .sidelined _ => true
  | .unused | .offline | .lost | .fault _ | .retired => false

/-- R20: loss by misses. -/
def State.lossOutcome (s : State) (n : Fin 64) (lossLimit : Nat) : State :=
  if (s.st n).state.canBeLost && lossLimit ≤ (s.st n).misses then s.enterStation n .lost .misses else s

/-- R32: a driven station's limit flag, after the drive fault and the loss (log entry 8). -/
def State.limitOutcome (s : State) (n : Fin 64) (slot : Option Slot) : State :=
  match slot with
  | none => s
  | some x =>
    if (s.st n).state.isDriven then
      if !x.limitReached then s.modSt n fun st => { st with limitArmed := true }
      else if (s.st n).limitArmed then
        (s.modSt n fun st => { st with limitArmed := false }).send (.trip (s.home n) .limit)
      else s
    else s

/-- R22: the identity agrees with the station's carriage and its reported status. -/
def State.identityValid (s : State) (n : Fin 64) (i : Identity) : Bool :=
  i.typeCode ≠ 0 && i.scale ≠ 0 && i.scale ≤ 4000 && i.ratedPower ≠ 0 && i.ratedPower ≤ 200 &&
  (s.cfg (s.home n)).creepSpeed ≤ i.ratedSpeed && i.quickStop ≠ 0 && (s.st n).shows Slot.brakeSet

/-- R22, R76: an IDENTIFY answer. -/
def State.identifyAnswer (s : State) (n : Fin 64) (a : ServiceAnswer) : State :=
  if (s.st n).state = .identifying then
    let s := s.modSt n fun st => { st with identity := some a.identity }
    if s.identityValid n a.identity then (s.enterLoading n).retainedReference n
    else s.enterStation n (.fault .identity) .none
  else s

/-- R23: a LOAD answer. -/
def State.loadAnswer (s : State) (n : Fin 64) (a : ServiceAnswer) : State :=
  if (s.st n).state = .loading then
    if (s.st n).params = some a.echo then
      (s.modSt n fun st => { st with echoed := true }).enterStation n .ready .none
    else if (s.st n).inFlight = some a.echo then s.loadPresent n
    else s.enterStation n (.fault .load) .none
  else s

/-- R62: the attempts the queued request of a station has had. -/
def State.attempts (s : State) (r : RingId) (q : Carried) : Nat :=
  match (s.ring r).queue.find? fun x => x.station = q.station && x.kind = q.kind with
  | some x => x.attempts
  | none => 0

/-- R62, R25, R63: the request in flight is judged at its station: answered, sent again, or exhausted. A station LOST
here whose slot shows present is enumerated in the same completion (log entry 7). -/
def State.serviceOutcome (s : State) (r : RingId) (n : Fin 64) (answer : Option ServiceAnswer) : State :=
  match (s.ring r).inFlight.bind Round.request with
  | none => s
  | some q =>
    if q.live && q.station = n then
      match answer.filter fun a => a.node = q.node.val && a.kind = q.kind.code with
      | some a =>
        let s := (s.modRing r fun g =>
          { g with queue := g.queue.filter fun x => !(x.station = n && x.kind = q.kind) }).promote r
        match q.kind with
        | .identify => s.identifyAnswer n a
        | .load => s.loadAnswer n a
      | none => if 3 ≤ s.attempts r q then s.enterStation n .lost .service else s
    else s

/-- R19: an OFFLINE or LOST station whose slot shows present is enumerated (log entry 7). -/
def State.presentOutcome (s : State) (n : Fin 64) (slot : Option Slot) : State :=
  if shownIn slot Slot.present then
    match (s.st n).state with
    | .offline | .lost => s.enumerate n
    | .unused | .identifying | .loading | .ready | .driving | .sidelined _ | .fault _ | .retired => s
  else s

/-- R19, R53: what a completion brings to the station of a node, in the order of R19. -/
def State.completeStation (s : State) (r : RingId) (f : Round) (n : Fin 64) (marked : Bool) (slot : Option Slot) :
    State :=
  let s := s.takeReport n f.sequence marked slot
  let s := s.faultOutcome n slot
  let s := s.lossOutcome n (s.ringCfg r).lossLimit
  let s := s.limitOutcome n slot
  let s := s.serviceOutcome r n f.answer
  s.presentOutcome n slot

/-- R53: one node of the ring is taken. -/
def State.completeNode (s : State) (r : RingId) (f : Round) (marks : Vector Bool 40) (node : Fin 40) : State :=
  match s.occupant r node with
  | some n => s.completeStation r f n marks[node] (f.slotAt (s.ringCfg r).nodes node.val)
  | none => s

/-! ## The ring state after a completion (R54 to R60) -/

/-- R56: the first and last unreached node. -/
def unreachedRange (hops : Nat × Nat) (nodes : Nat) : Option (Nat × Nat) :=
  if hops.1 + hops.2 < nodes then some (hops.1, nodes - hops.2 - 1) else none

/-- R60: a ring-state event. -/
def State.postRing (s : State) (r : RingId) (before : RingState) (reason : RingReason) (hops : Option (Nat × Nat)) :
    State :=
  s.post (.ringState { ring := r, before := before, after := (s.ring r).state, reason := reason, hops := hops,
                       unreached := hops.bind fun h => unreachedRange h (s.ringCfg r).nodes })

/-- R57: an edge of the break reports its link up: its station's filled slot, or the module's own port. -/
def edgeUp (slot : Option Slot) : Bool := shownIn slot Slot.linkUp

/-- R57: both edges report their links up. -/
def Round.edgesUp (f : Round) (nodes : Nat) (signals : Signals) : Bool :=
  let h1 := f.h1 nodes
  let h2 := f.h2 nodes
  (if h1 = 0 then signals.port1 else edgeUp (f.slotAt nodes (h1 - 1))) &&
  (if h2 = 0 then signals.port2 else edgeUp (f.slotAt nodes (nodes - h2)))

/-- R57: the heal count after a completion in OPEN. -/
def healCount (g : Ring) (hops : Nat × Nat) (up : Bool) : Nat :=
  if !up then 0 else if g.hops = some hops then g.heal + 1 else 1

/-- R54, R55: the end of a completion in CLOSED. -/
def State.endClosed (s : State) (r : RingId) (f : Round) : State :=
  match f.copy2 with
  | none =>
    (s.modRing r fun g => { g with state := .opened, hops := none, heal := 0, empty := 0 }).postRing r .closed
      .noReturn none
  | some b =>
    let hop := copyHops b
    let nodes := (s.ringCfg r).nodes
    let armed := (s.ring r).countArmed
    let s := s.modRing r fun g => { g with lastReturn := some hop, countArmed := hop = nodes }
    if hop ≠ nodes && armed then s.post (.ringCount r nodes hop) else s

/-- R59: the entry to DOWN posts the trip cause RING_DOWN to the carriages of the ring that are in motion. -/
def State.sendRingDown (s : State) (r : RingId) : State :=
  (s.carriagesOf r).foldl (fun s c => if (s.car c).state.inMotion then s.send (.trip c .ringDown) else s) s

/-- R56 to R58: the end of a completion in OPEN. A completion at which the heal count reaches 10 and the empty count 3
heals the ring (log entry 34). -/
def State.endOpen (s : State) (r : RingId) (f : Round) (signals : Signals) : State :=
  let nodes := (s.ringCfg r).nodes
  let hops := (f.h1 nodes, f.h2 nodes)
  let heal := healCount (s.ring r) hops (f.edgesUp nodes signals)
  let empty := if f.returned then 0 else (s.ring r).empty + 1
  if 10 ≤ heal then
    (s.modRing r fun g =>
      { g with state := .closed, hops := none, heal := heal, empty := empty, countArmed := true }).postRing r .opened
      .healed (some hops)
  else if 3 ≤ empty then
    ((s.modRing r fun g => { g with state := .down, hops := some hops, heal := heal, empty := empty }).postRing r
      .opened .empty (some hops)).sendRingDown r
  else s.modRing r fun g => { g with hops := some hops, heal := heal, empty := empty }

/-- R56, R59: the end of a completion in DOWN. -/
def State.endDown (s : State) (r : RingId) (f : Round) : State :=
  let nodes := (s.ringCfg r).nodes
  let hops := (f.h1 nodes, f.h2 nodes)
  if f.returned then
    (s.modRing r fun g => { g with state := .opened, hops := some hops, heal := 0, empty := 0 }).postRing r .down
      .returned (some hops)
  else s.modRing r fun g => { g with hops := some hops }

/-- R53: the ring state change a completion calls for. -/
def State.endCompletion (s : State) (r : RingId) (f : Round) (signals : Signals) : State :=
  match (s.ring r).state with
  | .closed => s.endClosed r f
  | .opened => s.endOpen r f signals
  | .down => s.endDown r f
  | .quiet => s

/-- R16, R62: a request of a round in flight is a LOAD for station n that is still judged. -/
def Ring.carriesLoad (g : Ring) (n : Fin 64) : Bool :=
  match g.inFlight.bind Round.request with
  | some q => q.live && q.station = n && q.kind = .load
  | none => false

/-- R62, R16: the round is no longer in flight; the in-flight set of the station it named is absent, unless a LOAD for
that station is in flight on the other ring, to which it has been moved. -/
def State.landRound (s : State) (r : RingId) (q : Option Carried) : State :=
  let s := s.modRing r fun g => { g with inFlight := none, closeTimer := none }
  match q with
  | some q =>
    if s.ringA.carriesLoad q.station || s.ringB.carriesLoad q.station then s
    else s.modSt q.station fun st => { st with inFlight := none }
  | none => s

/-- R52: the last-filled marks after a completion. -/
def filledMarks (f : Round) (nodes : Nat) : Vector Bool 40 := Vector.ofFn fun n => (f.slotAt nodes n.val).isSome

/-- R53: the completion of a round: station records in node order, then the hand-off to the Reckoner carriage by
carriage, then the ring state. The carriages are taken from C0 up, since R53 names no order (log entry 39). -/
def State.completeRound (s : State) (r : RingId) (f : Round) (signals : Signals) : State :=
  let nodes := (s.ringCfg r).nodes
  let marks := (s.ring r).filled
  let s := allNodes.foldl (fun s node => s.completeNode r f marks node) s
  let s := s.modRing r fun g => { g with filled := filledMarks f nodes }
  let s := s.landRound r f.request
  let h : HandOff := { settings := s.ringCfg r, sequence := f.sequence, slots := fun n => f.slotAt nodes n.val }
  let s := (s.carriagesOf r).foldl (fun s c => s.reckon h c) s
  s.endCompletion r f signals

/-- R48: a copy that counts as returned: whole, without error, with this ring's id and the sequence in flight. -/
def validCopy (r : RingId) (nodes : Nat) (f : Round) (inError : Bool) (bytes : List Byte) : Bool :=
  !inError && bytes.length = telegramLength nodes && byteAt bytes 0 = ringCode r && halfAt bytes 2 = f.sequence

/-- R46, R47: the round with a returned copy, when the copy is expected at that port. -/
def Round.withCopy (f : Round) (port : Port) (bytes : List Byte) : Option Round :=
  match port with
  | .one => if f.openMode && f.copy1.isNone then some { f with copy1 := some bytes } else none
  | .two => if f.copy2.isNone then some { f with copy2 := some bytes } else none

/-- R46, R47: every expected copy has returned. -/
def Round.complete (f : Round) : Bool := if f.openMode then f.copy1.isSome && f.copy2.isSome else f.copy2.isSome

/-- R46 to R48: a copy arrives at a port: it is discarded, kept, or it completes the round. -/
def State.arriveCopy (s : State) (r : RingId) (port : Port) (inError : Bool) (bytes : List Byte) (signals : Signals) :
    State :=
  match (s.ring r).inFlight with
  | none => s
  | some f =>
    if validCopy r (s.ringCfg r).nodes f inError bytes then
      match f.withCopy port bytes with
      | none => s
      | some f =>
        let s := s.modRing r fun g => { g with inFlight := some f }
        if f.complete then s.completeRound r f signals else s
    else s

/-- R46, R47: round close completes the round in flight with what has arrived. -/
def State.closeRound (s : State) (r : RingId) (signals : Signals) : State :=
  match (s.ring r).inFlight with
  | none => s
  | some f => s.completeRound r f signals

/-! ## The meanings -/

/-- ROUND_START (R45). -/
def execRoundStart (r : RingId) (s : State) : Host.Outcome State Fault Refusal := event s fun s => s.startRound r

/-- COPY_ARRIVAL (R46 to R48, R53). -/
def execCopyArrival (r : RingId) (port : Port) (inError : Bool) (bytes : List Byte) (signals : Signals) (s : State) :
    Host.Outcome State Fault Refusal :=
  event s fun s => s.arriveCopy r port inError bytes signals

/-- ROUND_CLOSE (R46, R47, R53). -/
def execRoundClose (r : RingId) (signals : Signals) (s : State) : Host.Outcome State Fault Refusal :=
  event s fun s => s.closeRound r signals

end Sys2Proof.Machine
end

