-- ==== Sys2Proof/Machine/Service.lean ====
section
/-! DEFINITION. STATION_SERVICE (R33) and the ring orders RING_QUIET (R42, R37) and RING_WAKE (R41). -/

namespace Sys2Proof.Machine

/-! ## RETIRE and RESTORE (R33) -/

/-- R33: a station enters RETIRED. -/
def State.retire (s : State) (n : Fin 64) : State :=
  ((s.dropRequests n).enterStation n .retired .none).modSt n fun st =>
    { st with identity := none, params := none, echoed := false, inFlight := none, misses := 0 }

/-- STATION_SERVICE with the action RETIRE (R33): any other action byte of this row is undefined. -/
def handleRetire (b : ServiceBody) (s : State) : Reply :=
  match finByte 64 b.station with
  | none => s.refuse .refusedRange
  | some n =>
    if b.action ≠ 0 then s.refuse .refusedRange
    else
      match (s.st n).state with
      | .unused => s.refuse .refusedState
      | .offline | .identifying | .loading | .ready | .driving | .sidelined _ | .lost | .fault _ | .retired =>
        if (s.car (s.home n)).state ≠ .parked then s.refuse .refusedState
        else if (s.st n).state = .retired then s.accept
        else (s.retire n).accept

/-- R33: a RETIRED or FAULT station enters OFFLINE. -/
def State.restore (s : State) (n : Fin 64) : State :=
  (s.enterStation n .offline .restore).modSt n fun st => { st with misses := 0 }

/-- STATION_SERVICE with the action RESTORE (R33). -/
def handleRestore (b : ServiceBody) (s : State) : Reply :=
  match finByte 64 b.station with
  | none => s.refuse .refusedRange
  | some n =>
    if b.action ≠ 1 then s.refuse .refusedRange
    else
      match (s.st n).state with
      | .retired | .fault _ => (s.restore n).accept
      | .unused | .offline | .identifying | .loading | .ready | .driving | .sidelined _ | .lost =>
        s.refuse .refusedState

/-! ## RING_QUIET (R42, R37) -/

/-- R42: a carriage of the ring is neither PARKED nor TRIPPED. -/
def State.ringBusy (s : State) (r : RingId) : Bool :=
  (s.carriagesOf r).any fun c => !(decide ((s.car c).state = .parked) || (s.car c).state.isTripped)

/-- R37: a station of a quieted ring enters OFFLINE, unless it is UNUSED or RETIRED. -/
def State.quietStation (s : State) (r : RingId) (n : Fin 64) : State :=
  if s.onRing r n then
    match (s.st n).state with
    | .unused | .retired => s
    | .offline | .identifying | .loading | .ready | .driving | .sidelined _ | .lost | .fault _ =>
      s.putOut n (s.home n) .offline .quiet
  else s

/-- R42: the ring record of a quieted ring. -/
def Ring.quieted (g : Ring) : Ring :=
  { g with state := .quiet, roundTimer := none, closeTimer := none, inFlight := none, queue := [], pendingList := [],
           hops := none, lastReturn := none, filled := Vector.replicate 40 false, heal := 0, empty := 0 }

/-- R60: a ring-state event without hop counts. That of a QUIET carries absent h1 and h2, since R42 clears them in the
same handling (log entry 15). -/
def State.postRingChange (s : State) (r : RingId) (before after : RingState) (reason : RingReason) : State :=
  s.post (.ringState { ring := r, before := before, after := after, reason := reason, hops := none, unreached := none })

/-- R86: the rails of a carriage whose ring is quiet are next extrapolated at the setpoint 0. -/
def Carriage.settleRails (k : Carriage) : Carriage := { k with rails := k.rails.map fun r => { r with written := 0 } }

/-- A message that delivers a sample set to a carriage of the ring. -/
def State.deliversTo (s : State) (r : RingId) (p : Post) : Bool :=
  match p with
  | .sample c _ => (s.cfg c).ring = r
  | .trip .. | .hold .. | .cleared .. | .grantAttempt => false

/-- R42, R86, R113: no sample set reaches a carriage of a QUIET ring. -/
def State.dropSamples (s : State) (r : RingId) : State :=
  { s with posts := s.posts.filter fun p => !s.deliversTo r p }

/-- R42, R37, R86: a ring enters QUIET. Its stations enter OFFLINE in number order, since R42 names none (log entry
39). -/
def State.quiet (s : State) (r : RingId) : State :=
  let before := (s.ring r).state
  let s := (s.modRing r Ring.quieted).postRingChange r before .quiet .quiet
  let s := (s.carriagesOf r).foldl (fun s c => s.modCar c Carriage.settleRails) (s.dropSamples r)
  allStations.foldl (fun s n => s.quietStation r n) s

/-- RING_QUIET (R42). -/
def handleRingQuiet (ring : Byte) (s : State) : Reply :=
  match ringWord ring with
  | none => s.refuse .refusedRange
  | some r =>
    if (s.ring r).state = .quiet then s.accept
    else if s.ringBusy r then s.refuse .refusedState
    else (s.quiet r).accept

/-! ## RING_WAKE (R41) -/

/-- R41 step 5: an enabled station of the ring has a node at or above N. -/
def State.nodeBeyond (s : State) (r : RingId) (nodes : Nat) : Bool :=
  allStations.any fun n => s.onRing r n && decide (nodes ≤ (s.stCfg n).node.val)

/-- The settings of a ring replaced. -/
def State.withRing (s : State) (r : RingId) (g : RingSettings) : State :=
  match r with
  | .a => { s with settings := { s.settings with ringA := g } }
  | .b => { s with settings := { s.settings with ringB := g } }

/-- R41: the ring record of a woken ring. -/
def Ring.woken (g : Ring) (periodMs : Nat) : Ring :=
  { g with state := .closed, heal := 0, empty := 0, countArmed := true, filled := Vector.replicate 40 false,
           hops := none, lastReturn := none, roundTimer := some (msToUs periodMs) }

/-- R41: a ring is woken with new settings. -/
def State.wake (s : State) (r : RingId) (g : RingSettings) : State :=
  ((s.withRing r g).modRing r (·.woken g.period)).postRingChange r .quiet .closed .wake

/-- RING_WAKE (R41). -/
def handleRingWake (b : WakeBody) (s : State) : Reply :=
  match ringWord b.ring with
  | none => s.refuse .refusedRange
  | some r =>
    if s.saving then s.refuse .refusedBusy
    else
      match ringSettingsOf b with
      | none => s.refuse .refusedRange
      | some g =>
        if (s.ring r).state ≠ .quiet then s.refuse .refusedState
        else if s.nodeBeyond r g.nodes then s.refuse .refusedState
        else (s.wake r g).accept

/-! ## The meanings -/

/-- RETIRE (R33). -/
def execRetire (tag : Byte) (b : Body ServiceBody) (s : State) : Host.Outcome State Fault Refusal :=
  order 0x18 tag b handleRetire s

/-- RESTORE (R33). -/
def execRestore (tag : Byte) (b : Body ServiceBody) (s : State) : Host.Outcome State Fault Refusal :=
  order 0x18 tag b handleRestore s

/-- RING_QUIET (R42). -/
def execRingQuiet (tag : Byte) (b : Body Byte) (s : State) : Host.Outcome State Fault Refusal :=
  order 0x19 tag b handleRingQuiet s

/-- RING_WAKE (R41). -/
def execRingWake (tag : Byte) (b : Body WakeBody) (s : State) : Host.Outcome State Fault Refusal :=
  order 0x1A tag b handleRingWake s

end Sys2Proof.Machine
end

