-- ==== Sys2Proof/Machine/Weather.lean ====
section
/-! DEFINITION. The Weather Monitor (Chapter 9): pulses, the one-second evaluation (R156 to R161), the descent (R160),
what a level change reaches (R162), and the rain line (R164). -/

namespace Sys2Proof.Machine

/-! ## The windows and the values of an anemometer (R156, R157) -/

/-- R156: the most entries of a window. -/
def windowCapacity : Nat := 60

/-- R156: the entry of a second's pulse count. -/
def sampleOf (count gain : Nat) : Sample :=
  let value := min count 65535 * gain / 256
  { value := value, valid := value ≤ 750 }

/-- R156: an entry joins the newest end; a full window loses its oldest. -/
def joinWindow (window : List Sample) (x : Sample) : List Sample :=
  (window ++ [x]).drop (window.length + 1 - windowCapacity)

/-- The valid values of a list of entries. -/
def validValues (window : List Sample) : List Nat := (window.filter Sample.valid).map Sample.value

/-- The largest of a list, absent for an empty one. -/
def largest : List Nat → Option Nat
  | [] => none
  | x :: xs => some (xs.foldl max x)

/-- R157: the largest valid value among the newest 3 entries. -/
def windowGust (window : List Sample) : Option Nat := largest (validValues (window.drop (window.length - 3)))

/-- R157: the floored mean of the valid values, absent with fewer than 30 of them. -/
def windowMean (window : List Sample) : Option Nat :=
  let xs := validValues window
  if xs.length < 30 then none else some (xs.sum / xs.length)

/-- R157: the validity mark after an expiry. -/
def markOf (window : List Sample) : Validity := if (windowGust window).isSome then .valid else .invalid

/-- R156, R157: an enabled anemometer at an expiry of the weather timer. -/
def Anemometer.evaluate (a : Anemometer) (gain : Nat) : Anemometer :=
  let window := joinWindow a.window (sampleOf a.count gain)
  { window := window, count := 0, mark := markOf window }

/-- W0 to W3. -/
def allAnemometers : List (Fin 4) := [0, 1, 2, 3]

/-- R156: the enabled anemometers are evaluated; a disabled one keeps its record. -/
def evaluateAll (site : SiteSettings) (ws : Vector Anemometer 4) : Vector Anemometer 4 :=
  Vector.ofFn fun w => if site.enabled[w] then ws[w].evaluate site.gain[w] else ws[w]

/-- R157: the ANEMOMETER_INVALID event of an anemometer that entered INVALID. -/
def State.reportInvalid (before : Vector Anemometer 4) (s : State) (w : Fin 4) : State :=
  let a := s.weather.anemometers[w]
  if s.settings.site.enabled[w] && a.mark = .invalid && before[w].mark ≠ .invalid then
    s.post (.anemometerInvalid w ((a.window.getLast?.map Sample.value).getD 0) (validValues a.window).length)
  else s

/-! ## The site values and the target (R158) -/

/-- R157: an anemometer takes part in the site values while it is enabled and its gust is present. -/
def takesPart (site : SiteSettings) (ws : Vector Anemometer 4) (w : Fin 4) : Bool :=
  site.enabled[w] && (windowGust ws[w].window).isSome

/-- R157, R158: the largest of the values present among the anemometers that take part. -/
def siteValue (site : SiteSettings) (ws : Vector Anemometer 4) (value : List Sample → Option Nat) : Option Nat :=
  largest (allAnemometers.filterMap fun w => if takesPart site ws w then value ws[w].window else none)

/-- R158: an absent site value meets no threshold. -/
def meets (value : Option Nat) (threshold : Nat) : Bool :=
  match value with
  | some x => threshold ≤ x
  | none => false

/-- R158: the target level before the blind level. -/
def windTarget (site : SiteSettings) (gust mean : Option Nat) : Fin 4 :=
  if meets gust site.gust[2] || meets mean site.mean[2] then 3
  else if meets gust site.gust[1] || meets mean site.mean[1] then 2
  else if meets gust site.gust[0] || meets mean site.mean[0] then 1
  else 0

/-- R158: the target level. -/
def targetLevel (site : SiteSettings) (gust mean : Option Nat) : Fin 4 :=
  let t := windTarget site gust mean
  if gust.isNone && t < site.blindLevel then site.blindLevel else t

/-! ## Level changes (R159 to R162) -/

/-- R162: the message of a level change to a carriage engine. -/
def State.windMessage (s : State) (c : Fin 6) : Post :=
  if (s.response c).action = .hold then .hold c .wind else .cleared c .wind

/-- R162: the site level changes to another level: its event, then one message to each engine. -/
def State.changeLevel (s : State) (level target : Fin 4) (reason : LevelReason) : State :=
  let before := s.weather.level
  let s := { s with weather := { s.weather with level := level } }
  let s := s.post (.levelChange before level reason target s.weather.gust s.weather.mean)
  allCarriages.foldl (fun s c => s.send (s.windMessage c)) s

/-- The descent timer set. -/
def State.setDescent (s : State) (t : Timer) : State := { s with weather := { s.weather with descentTimer := t } }

/-- R160: the thresholds below which gust and mean must lie at level L, for L from 1 to 3. -/
def SiteSettings.thresholds (site : SiteSettings) : Fin 4 → Nat × Nat
  | 0 => (0, 0)
  | 1 => (site.gust[0], site.mean[0])
  | 2 => (site.gust[1], site.mean[1])
  | 3 => (site.gust[2], site.mean[2])

/-- R160: a site value lies below a threshold less the hysteresis, or is absent. -/
def below (value : Option Nat) (threshold hysteresis : Nat) : Bool :=
  match value with
  | some x => x < threshold - hysteresis
  | none => true

/-- R160: the descent condition at the present level. -/
def State.descends (s : State) (target : Fin 4) : Bool :=
  let site := s.settings.site
  let th := site.thresholds s.weather.level
  target < s.weather.level && below s.weather.gust th.1 site.hysteresis && below s.weather.mean th.2 site.hysteresis

/-- R160: the handling of the descent timer after the start window. -/
def State.judgeDescent (s : State) (target : Fin 4) : State :=
  if s.descends target then
    match s.weather.descentTimer with
    | some _ => s
    | none => s.setDescent (some (sToUs s.settings.site.descentDwell))
  else s.setDescent none

/-- R156 to R158: the windows, marks, site values and target of an expiry, and the restart of the weather timer. -/
def State.evaluateWeather (s : State) : State :=
  let site := s.settings.site
  let before := s.weather.anemometers
  let after := evaluateAll site before
  let gust := siteValue site after windowGust
  let mean := siteValue site after windowMean
  let s := { s with weather := { s.weather with
    anemometers := after, gust := gust, mean := mean, target := some (targetLevel site gust mean),
    weatherTimer := sToUs 1 } }
  allAnemometers.foldl (fun s w => s.reportInvalid before w) s

/-- R159: a target above the site level raises it at once and stops the descent timer. -/
def State.rise (s : State) (target : Fin 4) : State :=
  if s.weather.level < target then (s.setDescent none).changeLevel target target .rise else s

/-- R161: the start window closes: the level is set to the target and the descent timer is stopped. -/
def State.closeWindow (s : State) (target : Fin 4) : State :=
  let s := ({ s with weather := { s.weather with startWindow := none } }).setDescent none
  if s.weather.level = target then s else s.changeLevel target target .start

/-- R160, R161: in the start window its expiries are counted; after it the descent condition is judged. -/
def State.endEvaluation (s : State) (target : Fin 4) : State :=
  match s.weather.startWindow with
  | none => s.judgeDescent target
  | some n =>
    if n ≤ 1 then s.closeWindow target else { s with weather := { s.weather with startWindow := some (n - 1) } }

/-- R156 to R161: an expiry of the weather timer. -/
def State.weatherExpiry (s : State) : State :=
  let s := s.evaluateWeather
  let target := targetLevel s.settings.site s.weather.gust s.weather.mean
  (s.rise target).endEvaluation target

/-- R160: the descent timer expires: one level down, and the timer runs again while the target is lower still. -/
def State.descend (s : State) : State :=
  match s.weather.descentTimer with
  | none => s
  | some _ =>
    let level : Fin 4 := ⟨s.weather.level.val - 1, by have := s.weather.level.isLt; omega⟩
    let target := s.weather.target.getD 0
    let s := s.setDescent (if target < level then some (sToUs s.settings.site.descentDwell) else none)
    if s.weather.level = level then s else s.changeLevel level target .descent

/-- R156: a pulse on an enabled anemometer is counted. -/
def State.pulse (s : State) (w : Fin 4) : State :=
  if s.settings.site.enabled[w] then
    let a := s.weather.anemometers[w]
    { s with weather :=
      { s.weather with anemometers := s.weather.anemometers.set w { a with count := a.count + 1 } } }
  else s

/-- R164, R186: the filtered RAIN level becomes wet or dry; without a change nothing happens. -/
def State.setRain (s : State) (wet : Bool) : State :=
  if s.lines.rain = wet then s
  else State.post { s with lines := { s.lines with rain := wet }, weather := { s.weather with wet := wet } } (.rain wet)

/-! ## The meanings -/

/-- RAIN_ON (R164). -/
def execRainOn (s : State) : Host.Outcome State Fault Refusal := event s fun s => s.setRain true

/-- RAIN_OFF (R164). -/
def execRainOff (s : State) : Host.Outcome State Fault Refusal := event s fun s => s.setRain false

/-- ANEMOMETER_PULSE (R156). -/
def execAnemometerPulse (w : Fin 4) (s : State) : Host.Outcome State Fault Refusal := event s fun s => s.pulse w

/-- WEATHER_TIMER_EXPIRY (R156 to R161). -/
def execWeatherTimerExpiry (s : State) : Host.Outcome State Fault Refusal := event s State.weatherExpiry

/-- DESCENT (R160). -/
def execDescent (s : State) : Host.Outcome State Fault Refusal := event s State.descend

end Sys2Proof.Machine
end

