-- ==== Sys2Proof/Machine/Dispatch.lean ====
section
/-! DEFINITION. What each command of spec/opcode_table.json does: one arm per row, in the table's order. -/

namespace Sys2Proof.Machine

/-- The effect of a command on everything but the queue of commands. -/
def exec (i : Instr) (s : State) : Host.Outcome State Fault Refusal :=
  match i with
  | .presence tag body => Sys2Proof.Machine.execPresence tag body s
  | .readFlags tag body => Sys2Proof.Machine.execReadFlags tag body s
  | .save tag body => Sys2Proof.Machine.execSave tag body s
  | .restart tag body => Sys2Proof.Machine.execRestart tag body s
  | .configCarriage tag body => Sys2Proof.Machine.execConfigCarriage tag body s
  | .configStation tag body => Sys2Proof.Machine.execConfigStation tag body s
  | .configPlates tag body => Sys2Proof.Machine.execConfigPlates tag body s
  | .configInterlock tag body => Sys2Proof.Machine.execConfigInterlock tag body s
  | .configWeatherSite tag body => Sys2Proof.Machine.execConfigWeatherSite tag body s
  | .configWeatherCarriage tag body => Sys2Proof.Machine.execConfigWeatherCarriage tag body s
  | .configPower tag body => Sys2Proof.Machine.execConfigPower tag body s
  | .configNotices tag body => Sys2Proof.Machine.execConfigNotices tag body s
  | .move tag body => Sys2Proof.Machine.execMove tag body s
  | .seek tag body => Sys2Proof.Machine.execSeek tag body s
  | .stop tag body => Sys2Proof.Machine.execStop tag body s
  | .resume tag body => Sys2Proof.Machine.execResume tag body s
  | .clear tag body => Sys2Proof.Machine.execClear tag body s
  | .retire tag body => Sys2Proof.Machine.execRetire tag body s
  | .restore tag body => Sys2Proof.Machine.execRestore tag body s
  | .ringQuiet tag body => Sys2Proof.Machine.execRingQuiet tag body s
  | .ringWake tag body => Sys2Proof.Machine.execRingWake tag body s
  | .queryCarriage tag body => Sys2Proof.Machine.execQueryCarriage tag body s
  | .queryStation tag body => Sys2Proof.Machine.execQueryStation tag body s
  | .queryRing tag body => Sys2Proof.Machine.execQueryRing tag body s
  | .queryWeather tag body => Sys2Proof.Machine.execQueryWeather tag body s
  | .queryPower tag body => Sys2Proof.Machine.execQueryPower tag body s
  | .unassignedOrderKind kind tag => Sys2Proof.Machine.execUnassignedOrderKind kind tag s
  | .notAnOrder kind tag => Sys2Proof.Machine.execNotAnOrder kind tag s
  | .overrun => Sys2Proof.Machine.execOverrun s
  | .frameAbandoned reason => Sys2Proof.Machine.execFrameAbandoned reason s
  | .frameGap => Sys2Proof.Machine.execFrameGap s
  | .frameCheckFailed => Sys2Proof.Machine.execFrameCheckFailed s
  | .frameSent => Sys2Proof.Machine.execFrameSent s
  | .restartReset lines => Sys2Proof.Machine.execRestartReset lines s
  | .powerOn lines straps => Sys2Proof.Machine.execPowerOn lines straps s
  | .resetHeld => Sys2Proof.Machine.execResetHeld s
  | .resetRelease lines straps => Sys2Proof.Machine.execResetRelease lines straps s
  | .estopOn => Sys2Proof.Machine.execEstopOn s
  | .estopOff => Sys2Proof.Machine.execEstopOff s
  | .rainOn => Sys2Proof.Machine.execRainOn s
  | .rainOff => Sys2Proof.Machine.execRainOff s
  | .anemometerPulse w => Sys2Proof.Machine.execAnemometerPulse w s
  | .roundStart ring => Sys2Proof.Machine.execRoundStart ring s
  | .copyArrival ring port inError bytes signals => Sys2Proof.Machine.execCopyArrival ring port inError bytes signals s
  | .roundClose ring signals => Sys2Proof.Machine.execRoundClose ring signals s
  | .controlStep c => Sys2Proof.Machine.execControlStep c s
  | .tripCause c cause => Sys2Proof.Machine.execTripCause c cause s
  | .holdCause c cause => Sys2Proof.Machine.execHoldCause c cause s
  | .holdCauseCleared c cause => Sys2Proof.Machine.execHoldCauseCleared c cause s
  | .grantAttempt => Sys2Proof.Machine.execGrantAttempt s
  | .grantTimeout c => Sys2Proof.Machine.execGrantTimeout c s
  | .brakeReleaseTimeout c => Sys2Proof.Machine.execBrakeReleaseTimeout c s
  | .brakeSetTimeout c => Sys2Proof.Machine.execBrakeSetTimeout c s
  | .dwellTimerExpiry c => Sys2Proof.Machine.execDwellTimerExpiry c s
  | .blockTimeout c => Sys2Proof.Machine.execBlockTimeout c s
  | .weatherTimerExpiry => Sys2Proof.Machine.execWeatherTimerExpiry s
  | .descent => Sys2Proof.Machine.execDescent s
  | .silenceTimerExpiry => Sys2Proof.Machine.execSilenceTimerExpiry s
  | .storeDone good => Sys2Proof.Machine.execStoreDone good s
  | .powerLoss => Sys2Proof.Machine.execPowerLoss s

end Sys2Proof.Machine
end

