-- ==== Sys2Proof/Machine/Step.lean ====
section
/-! DEFINITION. One step of the block: the command at the front of the queue, or, with none waiting, one microsecond of
time (log entry 3). -/

namespace Sys2Proof.Machine

/-- The next step of the machine. -/
def step (s : State) : Host.Outcome State Fault Refusal :=
  match s.pending with
  | [] => .next s.tick
  | i :: rest => exec i { s with pending := rest }

/-- The state with the command a word of the table spells put at the front of its queue; no row of the table gives
bits, so no word spells one. -/
def State.withFetchWord (s : State) (nbits w : Nat) : State :=
  match decodeTableWord nbits w with
  | some i => { s with pending := i :: s.pending }
  | none => s

end Sys2Proof.Machine
end

