-- ==== Sys2Proof/Machine/Wire.lean ====
section
/-! DEFINITION. The bytes on the two wires: the frames (R168), the answers and notices the transmitter sends (R171, R172,
R175, R178), and the round telegram a ring sends on its ports (R45, R49). The state holds answers, events and rounds as
records; these functions say which bytes they are. The places where R172 leaves the coding of a composite field open are
fixed here as log entry 19 says. -/

namespace Sys2Proof.Machine

/-! ## The frame (R168) -/

/-- R168: the sync byte. -/
def syncByte : Byte := 0xA5

/-- R168: the bytes the check covers: length, kind, tag and body. -/
def checkedBytes (kind tag : Byte) (body : List Byte) : List Byte :=
  BitVec.ofNat 8 (body.length + 2) :: kind :: tag :: body

/-- R168: a whole frame. -/
def frameBytes (kind tag : Byte) (body : List Byte) : List Byte :=
  syncByte :: (checkedBytes kind tag body ++ halfBytes (crc16 (checkedBytes kind tag body)))

/-! ## Bodies that end in a list (R172) -/

/-- R172: the longest body. -/
def bodyLimit : Nat := 198

/-- R172: how many elements of a list of given sizes fit. -/
def fitting : List Nat → Nat → Nat
  | [], _ => 0
  | n :: ns, room => if n ≤ room then fitting ns (room - n) + 1 else 0

/-- R172: a body with its last list cut to the whole elements that fit, the more byte after it, and the fields that
follow the list. -/
def cutBody (fixed : List Byte) (elements : List (List Byte)) (tail : List Byte) : List Byte :=
  let kept := elements.take (fitting (elements.map List.length) (bodyLimit - (fixed.length + 2 + tail.length)))
  fixed ++ put1 kept.length ++ kept.flatten ++ putBool (kept.length < elements.length) ++ tail

/-! ## Words (R172: numbered from 0 in the order of the owning rule) -/

/-- The states in the order of R14, with the purpose of STOPPING as an optional field. -/
def putCarriageState : CarriageState → List Byte
  | .parked => [0, 0]
  | .awaitPower => [1, 0]
  | .releasing => [2, 0]
  | .moving => [3, 0]
  | .blocked => [4, 0]
  | .stopping .ending _ => [5, 1, 0]
  | .stopping .hold _ => [5, 1, 1]
  | .held => [6, 0]
  | .tripped _ => [7, 0]

/-- The phases in the order of R14. -/
def phaseCode : Phase → Nat
  | .rampUp => 0
  | .cruise => 1
  | .rampDown => 2
  | .creep => 3
  | .dwell => 4

/-- The hold causes in the order of R14. -/
def holdCode : HoldCause → Nat
  | .wind => 0
  | .link => 1
  | .stationLoss => 2

/-- A set of hold causes. -/
def putCauses (t : CauseSet) : List Byte :=
  put1 ((if t.wind then 1 else 0) + (if t.link then 2 else 0) + (if t.stationLoss then 4 else 0))

/-- The trip causes in the order of R106. -/
def tripCode : TripCause → Nat
  | .skew => 0
  | .overtravel => 1
  | .railBlind => 2
  | .railSplit => 3
  | .brakeTimeout => 4
  | .stationFault => 5
  | .limit => 6
  | .ringDown => 7
  | .estop => 8

/-- The station states in the order of the table of section 2.3. -/
def stationCode : StationState → Nat
  | .unused => 0
  | .offline => 1
  | .identifying => 2
  | .loading => 3
  | .ready => 4
  | .driving => 5
  | .sidelined _ => 6
  | .lost => 7
  | .fault _ => 8
  | .retired => 9

/-- The fault reasons in the order of R16. -/
def faultCode : FaultReason → Nat
  | .identity => 0
  | .load => 1
  | .drive => 2

/-- The sideline reasons in the order of R16, and the exclusions of R70 after its word clear. -/
def exclusionCode : Exclusion → Nat
  | .implausible => 0
  | .deviation => 1
  | .slip => 2
  | .unreferenced => 3

/-- The fault reason of a state, present in FAULT. -/
def StationState.faultReason : StationState → Option FaultReason
  | .fault r => some r
  | .unused | .offline | .identifying | .loading | .ready | .driving | .sidelined _ | .lost | .retired => none

/-- The sideline reason of a state, present in SIDELINED. -/
def StationState.sidelineReason : StationState → Option Exclusion
  | .sidelined r => some r
  | .unused | .offline | .identifying | .loading | .ready | .driving | .lost | .fault _ | .retired => none

/-- The commands in the order of R49. -/
def commandCode : Command → Nat
  | .idleBraked => 0
  | .release => 1
  | .run => 2
  | .setBrake => 3
  | .quickStop => 4

/-- The ring states in the order of R39. -/
def ringStateCode : RingState → Nat
  | .quiet => 0
  | .closed => 1
  | .opened => 2
  | .down => 3

/-- The ring-state reasons in the order of R60. -/
def ringReasonCode : RingReason → Nat
  | .wake => 0
  | .quiet => 1
  | .noReturn => 2
  | .healed => 3
  | .empty => 4
  | .returned => 5

/-- R60: the reason COUNT of a RING_STATE notice that carries a RING_COUNT event, after the words of R60. -/
def ringCountCode : Nat := 6

/-- The request kinds in the order of R61, as QUERY_RING reports them; the telegram has codes of its own (R49). -/
def serviceWord : ServiceKind → Nat
  | .identify => 0
  | .load => 1

/-- The move-end outcomes in the order of R99. -/
def outcomeCode : MoveOutcome → Nat
  | .arrived => 0
  | .stopped => 1
  | .superseded => 2
  | .timedOut => 3
  | .blocked => 4
  | .tripped => 5
  | .referenced => 6
  | .notFound => 7

/-- The reasons of a carriage-state event in the order of R112; HOLD, CAUSE_ADDED and CAUSE_CLEARED carry their cause.
The trip cause of TRIP follows among the event's contents. -/
def putCarriageReason : CarriageReason → List Byte
  | .move => [0]
  | .seek => [1]
  | .grant => [2]
  | .released => [3]
  | .arrived => [4]
  | .stop => [5]
  | .seekEnd => [6]
  | .block => [7]
  | .unblock => [8]
  | .blockTimeout => [9]
  | .grantTimeout => [10]
  | .brakesSet => [11]
  | .clear => [12]
  | .resume => [13]
  | .autoResume => [14]
  | .hold c => 15 :: put1 (holdCode c)
  | .trip => [16]
  | .causeAdded c => 17 :: put1 (holdCode c)
  | .causeCleared c => 18 :: put1 (holdCode c)
  | .resumable => [19]
  | .brakesUnconfirmed => [20]
  | .brakesConfirmed => [21]

/-- The reasons of a station-state event as one byte: none 0, then the words of R36 in order. -/
def stationReasonCode (after : StationState) (reason : StationReason) : Nat :=
  match after with
  | .sidelined x => 1 + exclusionCode x
  | .fault x => 5 + faultCode x
  | .unused | .offline | .identifying | .loading | .ready | .driving | .lost | .retired =>
    match reason with
    | .none => 0
    | .misses => 8
    | .service => 9
    | .config => 10
    | .restore => 11
    | .quiet => 12

/-- UNKNOWN, VALID, INVALID (R157). -/
def validityCode : Validity → Nat
  | .unknown => 0
  | .valid => 1
  | .invalid => 2

/-- The last receive errors in the order of R175. -/
def receiveErrorCode : ReceiveError → Nat
  | .none => 0
  | .gap => 1
  | .length => 2
  | .line => 3
  | .check => 4
  | .kind => 5
  | .overrun => 6

/-- The result codes (R174). -/
def resultCode : Result → Nat
  | .ok => 0
  | .okClamped => 1
  | .refusedFormat => 2
  | .refusedRange => 3
  | .refusedState => 4
  | .refusedWind => 5
  | .refusedPower => 6
  | .refusedEstop => 7
  | .refusedBusy => 8

/-! ## Records in answers (R14, R35, R65, R130, R142, R152, R165, R175) -/

/-- R14: an order: tag, kind, target or direction and distance, speed limit, clamped mark. -/
def putOrder (o : Order) : List Byte :=
  [o.tag] ++
  (match o.task with
   | .move target => 0 :: putI4 target
   | .seek d distance => 1 :: (put1 (directionCode d) ++ put2 distance)) ++
  put2 o.speedLimit ++ putBool o.clamped

/-- R102: a resume record. -/
def putRecord (m : ResumeRecord) : List Byte := putOrder m.order ++ putCauses m.causes ++ putOpt putI4 m.position

/-- R14, R82: the fields of one rail: mean, contributing count, blind count, and the split mark after them (log entry
19). -/
def putRail (r : Rail) : List Byte := putOpt putI4 r.mean ++ put1 r.contributors ++ put1 r.blind ++ putBool r.split

/-- The rails a carriage has: R14 says only 'per rail', and the rails below the rail count are sent, which is the
model's choice (log entry 19). -/
def railsListed (config : CarriageConfig) (k : Carriage) : List Rail := k.rails.toList.take config.railCount

/-- R14, R130, R142: the live view: the live fields in the order of R14, then the kind, the enabled field, the ring and
the rail count, the last direction, the active entries as the last list, and the pinned mark after it. The rail means and
the rail setpoints are two lists, each with its count byte (log entry 19). -/
def putLiveView (config : CarriageConfig) (k : Carriage) : List Byte :=
  cutBody
    (put1 0 ++ putCarriageState k.state ++ putOpt (put1 ∘ phaseCode) k.phase ++ putI2 k.vCmd ++
      putOpt putOrder k.order ++ putOpt putI4 k.effectiveTarget ++ putOpt putI4 k.position ++ putOpt putI4 k.skew ++
      putList putRail (railsListed config k) ++ putList (fun r => putI2 r.setpoint) (railsListed config k) ++
      putCauses k.holds ++ putOpt (put1 ∘ tripCode) k.tripCause ++ putOpt putRecord k.resume ++
      putBool k.resumable ++ putBool k.brakesUnconfirmed ++ putBool k.skewWarnArmed ++ putOpt putI4 k.reach.p ++
      putOpt putI4 k.reach.target ++ putBool k.dwellRun ++ putBool k.seekStop ++ putTimer k.dwellTimer ++
      putTimer k.blockTimer ++ putTimer k.releaseTimer ++ putTimer k.setTimer ++ put1 (kindCode config.kind) ++
      putBool config.enabled ++ put1 (ringNumber config.ring) ++ put1 config.railCount ++
      putOpt (put1 ∘ directionCode) k.lastDirection)
    (k.activeEntries.map fun i => put1 i.val) (putBool k.pinned)

/-- R142: the configuration view: the configuration, then the entries that name the carriage, each with its index. -/
def putConfigView (config : CarriageConfig) (entries : List (Fin 16 × Interlock)) : List Byte :=
  cutBody (put1 0 ++ putCarriageConfig config) (entries.map fun e => put1 e.1.val ++ putInterlock e.2) []

/-- R16: an identity. -/
def putIdentity (i : Identity) : List Byte :=
  put1 i.typeCode ++ put2 i.ratedSpeed ++ put1 i.ratedPower ++ put2 i.scale ++ put1 i.quickStop ++
  putOpt (fun r : Retained => halfBytes r.plate ++ putI4 r.counts) i.retained

/-- R16, R23: a parameter set. -/
def putParams (p : ParamSet) : List Byte := put2 p.ceiling ++ put2 p.lossTime ++ put2 p.sampleLead

/-- R16: the reported fields. The status byte is sent as the station returned it, bits 6 and 7 included, which is the
model's choice (log entry 46). -/
def putReported (r : Reported) : List Byte :=
  [r.slot.status] ++ halfBytes r.slot.heard ++ halfBytes r.slot.plate ++ putI4 r.slot.counts ++ putI2 r.slot.offset ++
  putI2 r.slot.speed ++ put1 r.slot.load

/-- R70: REFERENCED, SEEDED, NONE. -/
def refKindCode : RefKind → Nat
  | .referenced => 0
  | .seeded => 1
  | .none => 2

/-- R70: a base: a base plate 0, or a seed base 1. -/
def putBase : Base → List Byte
  | .plate id => 0 :: halfBytes id
  | .seed mm => 1 :: putI4 mm

/-- R70, R172: the exclusion as one word: clear 0, then the others in the order of R70. -/
def putExclusion : Option Exclusion → List Byte
  | none => put1 0
  | some x => put1 (1 + exclusionCode x)

/-- R70: the reckoning fields. R75 gives the cumulative counts no bound; their low 32 bits are sent, which is the
model's choice (log entry 43). -/
def putReckoning (k : Reckoning) : List Byte :=
  put1 (refKindCode k.kind) ++ putOpt putBase k.base ++ putOpt halfBytes k.lastPlate ++ putI4 k.lastCounts ++
  putI2 k.lastSpeed ++ halfBytes k.lastRound ++ putOpt putI4 k.lastPosition ++ putI4 k.cumulative ++
  putExclusion k.exclusion

/-- R35, R70: a station record. -/
def putStation (config : StationConfig) (st : Station) : List Byte :=
  putStationConfig config ++ put1 (stationCode st.state) ++ putOpt (put1 ∘ faultCode) st.state.faultReason ++
  putBool st.faultStatus ++ putOpt (put1 ∘ exclusionCode) st.state.sidelineReason ++ put1 st.misses ++
  putBool st.pendingRequest.isSome ++ putBool st.limitArmed ++ putOpt putIdentity st.identity ++
  putOpt (fun p => putParams p ++ putBool st.echoed) st.params ++ put1 (commandCode st.command) ++
  putI2 st.setpoint ++ putOpt putReported st.reported ++ putReckoning st.reckoning

/-- h1 and h2, each an optional field. -/
def putHops (hops : Option (Nat × Nat)) : List Byte :=
  putOpt put1 (hops.map Prod.fst) ++ putOpt put1 (hops.map Prod.snd)

/-- The unreached range as one optional field: its first and last node (log entry 19). -/
def putRange (range : Option (Nat × Nat)) : List Byte := putOpt (fun h => put1 h.1 ++ put1 h.2) range

/-- R65: a ring record, the pending list last. -/
def putRing (g : RingSettings) (r : Ring) : List Byte :=
  cutBody
    (put1 0 ++ put1 (ringStateCode r.state) ++ putRingSettings g ++ halfBytes r.sequence ++ putBool r.inFlight.isSome ++ putHops r.hops ++
      putRange (r.hops.bind fun h => unreachedRange h g.nodes) ++ putOpt put1 r.lastReturn ++
      putBool r.countArmed ++ put1 r.heal ++ put1 r.empty ++
      putList (fun q => put1 q.station.val ++ put1 (serviceWord q.kind) ++ put1 q.attempts) r.queue)
    (r.pendingList.map fun n => put1 n.val) []

/-- A window entry: its value and its valid mark. -/
def putSample (x : Sample) : List Byte := put4 x.value ++ putBool x.valid

/-- R165: one anemometer of the SITE view. The rule gives the latest value no absent mark; that of an empty window is
sent as an absent optional field (log entry 19). -/
def putAnemometer (site : SiteSettings) (a : Anemometer) (w : Fin 4) : List Byte :=
  putBool site.enabled[w] ++ put2 site.gain[w] ++ putOpt putSample a.window.getLast? ++
  putOpt put2 (windowGust a.window) ++ putOpt put2 (windowMean a.window) ++
  put1 (validValues a.window).length ++ put1 (validityCode a.mark)

/-- R163: a carriage's present response among its three. At CALM it is NONE, for which R163 gives no cap %; the cap sent
then is 100 (log entry 19). -/
def presentResponse (level : Fin 4) (r : Responses) : Response :=
  match level with
  | 0 => ⟨.none, 100⟩
  | 1 => r[0]
  | 2 => r[1]
  | 3 => r[2]

/-- R165: the SITE view. What R165 gives for each anemometer and for each carriage are its two lists, the carriages
last; the start window is one optional byte, the expiries left, absent once it has closed (log entry 19). -/
def putSiteReport (v : SiteReport) : List Byte :=
  let w := v.weather
  cutBody
    (put1 0 ++ put1 w.level.val ++ putOpt (fun l : Fin 4 => put1 l.val) w.target ++ putOpt put2 w.gust ++
      putOpt put2 w.mean ++ putTimer w.descentTimer ++ putOpt put1 w.startWindow ++ putBool w.wet ++
      putList (fun i => putAnemometer v.settings w.anemometers[i] i) allAnemometers ++ putSite v.settings)
    (v.responses.toList.map fun r => putResponse (presentResponse w.level r) ++ r.toList.flatMap putResponse) []

/-- R152: the Arbiter's record: budget, sum, free budget, the grants with their states, oldest grant first (log entry
42), and the queue last, each entry number by its low 32 bits (log entry 41). -/
def putPower (v : PowerReport) : List Byte :=
  cutBody
    (put1 0 ++ put2 v.budget ++ put2 v.arbiter.grantedSum ++ put2 (v.budget - v.arbiter.grantedSum) ++
      putList (fun g : Grant => put1 g.carriage.val ++ put2 g.need ++ putCarriageState v.states[g.carriage])
        v.arbiter.grants)
    (v.arbiter.queue.map fun w =>
      put1 w.carriage.val ++ put1 w.priority ++ put2 w.need ++ put4 w.number ++ put4 (w.timer / 1000)) []

/-- DISARMED, RUNNING, EXPIRED (R181). -/
def silenceCode : Silence → Nat
  | .disarmed => 0
  | .running _ => 1
  | .expired => 2

/-- The time left of the silence monitor, which runs in RUNNING only (R181). -/
def Silence.timer : Silence → Timer
  | .running left => some left
  | .disarmed | .expired => none

/-- The silence monitor's state, and its time left as an optional field (R172, R175). -/
def putSilence (m : Silence) : List Byte := put1 (silenceCode m) ++ putTimer m.timer

/-- R175: what PRESENCE reports; the product number is 664. -/
def putPresence (p : PresenceReport) : List Byte :=
  put2 664 ++ wordBytes p.fieldTime ++ put1 (receiveErrorCode p.lastError) ++ put1 p.outstanding ++ put1 p.urgent ++
  putBool p.urgentLost ++ put1 p.routine ++ putBool p.routineLost ++ putSilence p.silence ++ putBool p.master

/-- R176: the flags as 12 bytes; flag i is bit i mod 8 of byte floor(i / 8). -/
def putFlags (flags : BitVec 94) : List Byte := (List.range 12).map fun i => (flags.setWidth 96).extractLsb' (8 * i) 8

/-- R171, R174, R175: the body of an answer: the result code, then the data. -/
def answerBody (a : Answer) : List Byte :=
  match a.data with
  | .none => put1 (resultCode a.result)
  | .presence p => put1 (resultCode a.result) ++ putPresence p
  | .flags f => put1 (resultCode a.result) ++ putFlags f
  | .carriageLive config k => putLiveView config k
  | .carriageConfig config entries => putConfigView config entries
  | .station config st => put1 (resultCode a.result) ++ putStation config st
  | .ring g r => putRing g r
  | .site v => putSiteReport v
  | .window xs => cutBody (put1 (resultCode a.result)) (xs.map putSample) []
  | .power v => putPower v

/-! ## Notices (R178, R179) -/

/-- R178: the kind code of the notice of an event. -/
def noticeCode : Event → Byte
  | .moveEnd .. => 0x80
  | .carriageState .. => 0x81
  | .stationState .. => 0x82
  | .ringState .. => 0x83
  | .ringCount .. => 0x83
  | .levelChange .. => 0x84
  | .anemometerInvalid .. => 0x84
  | .rain .. => 0x85
  | .plateUnknown .. => 0x86
  | .slip .. => 0x86
  | .railSplit .. => 0x87
  | .skewWarn .. => 0x87
  | .emergencyStop .. => 0x88
  | .granted .. => 0x89
  | .timedOut .. => 0x89
  | .storeDone .. => 0x8A

/-- R178: the cause byte where the table gives one, the causes of a notice numbered in the order of the table, then the
contents of the event as its posting rule lists them (R36, R55, R60, R88, R99, R112, R127, R147, R148, R157, R162,
R184). R164 gives the RAIN notice its cause; an ESTOP notice carries a word of its own, ESTOP_ON 0 and ESTOP_OFF 1 (log
entry 19). -/
def eventBytes : Event → List Byte
  | .moveEnd c tag outcome trip p =>
    put1 c.val ++ [tag] ++ put1 (outcomeCode outcome) ++ putOpt (put1 ∘ tripCode) trip ++ putOpt putI4 p
  | .carriageState n =>
    let fixed :=
      put1 n.carriage.val ++ put1 (kindCode n.kind) ++ putCarriageState n.before ++ putCarriageState n.after ++
      putCarriageReason n.reason ++ putCauses n.holds ++ putOpt putCauses n.recordCauses ++
      putOpt (put1 ∘ tripCode) n.trip ++ putOpt putI4 n.position
    if n.reason = .block then cutBody fixed (n.entries.map fun i => put1 i.val) [] else fixed
  | .stationState n c before after reason =>
    put1 n.val ++ put1 c.val ++ put1 (stationCode before) ++ put1 (stationCode after) ++
    put1 (stationReasonCode after reason)
  | .ringState n =>
    put1 (ringNumber n.ring) ++ put1 (ringStateCode n.before) ++ put1 (ringStateCode n.after) ++
    put1 (ringReasonCode n.reason) ++ putHops n.hops ++ putRange n.unreached
  | .ringCount r nodes hop =>
    put1 ringCountCode ++ put1 (ringNumber r) ++ put1 (ringStateCode .closed) ++ put1 (ringStateCode .closed) ++
    put1 nodes ++ put1 hop
  | .plateUnknown c n plate => put1 0 ++ put1 c.val ++ put1 n.val ++ halfBytes plate
  | .slip c n plate slip => put1 1 ++ put1 c.val ++ put1 n.val ++ halfBytes plate ++ putI4 slip
  | .railSplit c r n1 n2 p1 p2 =>
    put1 0 ++ put1 c.val ++ put1 r.val ++ put1 n1.val ++ put1 n2.val ++ putI4 p1 ++ putI4 p2
  | .skewWarn c skew r1 r2 => put1 1 ++ put1 c.val ++ putI4 skew ++ put1 r1.val ++ put1 r2.val
  | .levelChange before after reason target gust mean =>
    put1 (if before < after then 0 else 1) ++ put1 before.val ++ put1 after.val ++
    put1 (match reason with
          | .rise => 0
          | .descent => 1
          | .start => 2) ++
    put1 target.val ++ putOpt put2 gust ++ putOpt put2 mean
  | .anemometerInvalid w value count => put1 2 ++ put1 w.val ++ put4 value ++ put1 count
  | .rain wet => put1 (if wet then 0 else 1)
  | .emergencyStop asserted => put1 (if asserted then 0 else 1)
  | .granted c need sum budget => put1 0 ++ put1 c.val ++ put2 need ++ put2 sum ++ put2 budget
  | .timedOut c need waited place => put1 1 ++ put1 c.val ++ put2 need ++ put2 waited ++ put1 place
  | .storeDone generation => put1 (if generation.isSome then 0 else 1) ++ putOpt put4 generation

/-- R168, R171, R178, R179: the bytes of the frame the transmitter is sending. -/
def OutFrame.bytes : OutFrame → List Byte
  | .answer a => frameBytes a.kind a.tag (answerBody a)
  | .notice sequence lost e => frameBytes (noticeCode e) sequence (putBool lost ++ eventBytes e)

/-- The bytes on the host line: those of the frame being sent. A module that is held or without supply sends none
(R185). -/
def State.lineOut (s : State) : List Byte :=
  match s.power, s.link.sending with
  | .running, some f => f.bytes
  | .running, none => []
  | .held, _ => []
  | .off, _ => []

/-! ## The round telegram (R45, R49) -/

/-- R49: the request data: for LOAD, the six bytes of the set, then zeros; for IDENTIFY, zeros. -/
def requestData (data : Option ParamSet) : List Byte :=
  match data with
  | some p => putParams p ++ List.replicate 6 0
  | none => List.replicate 12 0

/-- R49: the service request field: node, kind and data. Beside the kind NONE the node and the data are 0, which is the
model's choice (log entry 47). -/
def requestBytes (q : Option Carried) : List Byte :=
  match q with
  | some q => put1 q.node.val ++ put1 q.kind.code ++ requestData q.data
  | none => List.replicate 14 0

/-- R45, R49: a slot as the module sends it: command and setpoint, the uplink part zero. -/
def slotBytes (d : Downlink) : List Byte := put1 (commandCode d.command) ++ putI2 d.setpoint ++ List.replicate 13 0

/-- R49: the mode byte: 1 CLOSED, 2 OPEN. -/
def modeByte (openMode : Bool) : Byte := if openMode then 2 else 1

/-- R45, R49: the round telegram as the module sends it. -/
def Round.telegram (f : Round) (r : RingId) : List Byte :=
  [ringCode r, modeByte f.openMode] ++ halfBytes f.sequence ++ wordBytes f.sendTime ++ wordBytes f.sampleInstant ++
  put1 0 ++ requestBytes f.request ++ List.replicate 15 0 ++ f.slots.flatMap slotBytes

/-- R45: what a round sends on a port: the telegram on port 1, and in OPEN and DOWN an identical copy on port 2. -/
def Round.onPort (f : Round) (r : RingId) (port : Port) : List Byte :=
  match port with
  | .one => f.telegram r
  | .two => if f.openMode then f.telegram r else []

/-- R45, R185: the bytes a ring sends on a port in the round in flight. A module that is held or without supply sends no
round. -/
def State.portOut (s : State) (r : RingId) (port : Port) : List Byte :=
  match s.power, (s.ring r).inFlight with
  | .running, some f => f.onPort r port
  | .running, none => []
  | .held, _ => []
  | .off, _ => []

end Sys2Proof.Machine
end

