-- ==== Sys2Proof/Machine/Receiver.lean ====
section
/-! DEFINITION. What the receiver makes of the events of the line: the sync byte it hunts for and the frame that fails
(R169), the link check (R168), the kind (R170, R173), and the body's fields at their places (R172). It names the command
of the table that each frame on the line stands for. -/

namespace Sys2Proof.Machine

/-- Four bytes at an offset, most significant first. -/
def wordAt (bytes : List Byte) (i : Nat) : Word := halfAt bytes i ++ halfAt bytes (i + 2)

/-- A body of the given length, read into its fields. -/
def bodyOf {α : Type} (length : Nat) (read : List Byte → α) (body : List Byte) : Body α :=
  if body.length = length then .fields (read body) else .wrongLength

/-- An order without fields. -/
def readNone (_ : List Byte) : Unit := ()

/-- An order with one field of one byte. -/
def readByte (b : List Byte) : Byte := byteAt b 0

/-- R177: the clear mask, laid out as the flags are: the flag with index i is bit i mod 8 of byte floor(i / 8). -/
def readMask (b : List Byte) : BitVec 96 :=
  ((List.range 12).map fun i => (byteAt b i).setWidth 96 <<< (8 * i)).foldl (· ||| ·) 0

/-- CONFIG_CARRIAGE: carriage, then the fields of R8. -/
def readCarriage (b : List Byte) : CarriageBody :=
  { carriage := byteAt b 0, enabled := byteAt b 1, kind := byteAt b 2, ring := byteAt b 3, railCount := byteAt b 4,
    travelMin := wordAt b 5, travelMax := wordAt b 9, refuge := wordAt b 13, maxSpeed := halfAt b 17,
    creepSpeed := byteAt b 19, acceleration := byteAt b 20, deceleration := byteAt b 21, trimGain := halfAt b 22,
    trimLimit := byteAt b 24, skewWarn := halfAt b 25, skewTrip := halfAt b 27, deviationLimit := halfAt b 29,
    slipLimit := halfAt b 31, arrivalTolerance := byteAt b 33, standstillBand := byteAt b 34,
    overtravelMargin := halfAt b 35, reversalDwell := halfAt b 37, releaseTimeout := halfAt b 39,
    setTimeout := halfAt b 41, blindTolerance := byteAt b 43, minStations := byteAt b 44, blockTimeout := halfAt b 45,
    grantTimeout := halfAt b 47, priority := byteAt b 49, resumeWind := byteAt b 50, resumeLoss := byteAt b 51 }

/-- CONFIG_STATION: station, then the five fields of R17. -/
def readStation (b : List Byte) : StationBody :=
  { station := byteAt b 0, enabled := byteAt b 1, carriage := byteAt b 2, rail := byteAt b 3, node := byteAt b 4,
    mount := wordAt b 5 }

/-- One entry of CONFIG_PLATES: id, position, mask (R173). -/
def readPlate (b : List Byte) (i : Nat) : PlateBody :=
  { id := halfAt b i, position := wordAt b (i + 2), mask := byteAt b (i + 6) }

/-- CONFIG_PLATES: carriage, start index, entry count, entries (R173): the length is 3 + 7 × the count. -/
def readPlates (tag : Byte) (b : List Byte) : Instr :=
  let count := (byteAt b 2).toNat
  if 3 ≤ b.length && b.length = 3 + 7 * count then
    .configPlates tag (.fields { carriage := byteAt b 0, start := byteAt b 1,
                                 entries := (List.range count).map fun i => readPlate b (3 + 7 * i) })
  else .configPlates tag .wrongLength

/-- CONFIG_INTERLOCK: index, then an entry of R131. -/
def readInterlock (b : List Byte) : InterlockBody :=
  { index := byteAt b 0, enabled := byteAt b 1, carriageA := byteAt b 2, directionA := byteAt b 3, limitA := wordAt b 4,
    carriageB := byteAt b 8, directionB := byteAt b 9, thresholdB := wordAt b 10 }

/-- CONFIG_WEATHER, SITE part: selector, then the settings of R154. -/
def readSite (b : List Byte) : SiteBody :=
  { selector := byteAt b 0
    enabled := Vector.ofFn fun w => byteAt b (1 + w.val)
    gain := Vector.ofFn fun w => halfAt b (5 + 2 * w.val)
    gust := Vector.ofFn fun l => halfAt b (13 + 2 * l.val)
    mean := Vector.ofFn fun l => halfAt b (19 + 2 * l.val)
    hysteresis := byteAt b 25, descentDwell := halfAt b 26, blindLevel := byteAt b 28, startLevel := byteAt b 29 }

/-- CONFIG_WEATHER, carriage part: selector, three actions, three cap % values (R155). -/
def readResponse (b : List Byte) : ResponseBody :=
  { selector := byteAt b 0
    actions := Vector.ofFn fun l => byteAt b (1 + l.val)
    caps := Vector.ofFn fun l => byteAt b (4 + l.val) }

/-- R173: CONFIG_WEATHER has two valid body lengths. -/
def readWeather (tag : Byte) (b : List Byte) : Instr :=
  if b.length = 7 then .configWeatherCarriage tag (.fields (readResponse b))
  else .configWeatherSite tag (bodyOf 30 readSite b)

/-- CONFIG_NOTICES: master enable, 16 classes, silence limit (R178). -/
def readNotices (b : List Byte) : NoticesBody :=
  { master := byteAt b 0, classes := Vector.ofFn fun i => byteAt b (1 + i.val), silence := halfAt b 17 }

/-- MOVE: carriage, target, speed limit. -/
def readMove (b : List Byte) : MoveBody :=
  { carriage := byteAt b 0, target := wordAt b 1, speedLimit := halfAt b 5 }

/-- SEEK: carriage, direction, seek distance, speed limit. -/
def readSeek (b : List Byte) : SeekBody :=
  { carriage := byteAt b 0, direction := byteAt b 1, distance := halfAt b 2, speedLimit := halfAt b 4 }

/-- STATION_SERVICE: station, action. -/
def readService (b : List Byte) : ServiceBody := { station := byteAt b 0, action := byteAt b 1 }

/-- STATION_SERVICE is two rows of the table: the action RESTORE is 1 (R33). -/
def readStationService (tag : Byte) (b : List Byte) : Instr :=
  if b.length = 2 && byteAt b 1 = 1 then .restore tag (.fields (readService b))
  else .retire tag (bodyOf 2 readService b)

/-- RING_WAKE: ring, then the settings of R40. -/
def readWake (b : List Byte) : WakeBody :=
  { ring := byteAt b 0, period := byteAt b 1, nodes := byteAt b 2, sampleLead := halfAt b 3, ageLimit := halfAt b 5,
    lossLimit := byteAt b 7 }

/-- QUERY_CARRIAGE: carriage, view, interlock start index. -/
def readCarriageQuery (b : List Byte) : CarriageQuery :=
  { carriage := byteAt b 0, view := byteAt b 1, start := byteAt b 2 }

/-- R170, R173: the command of a valid frame. -/
def frameOrder (kind tag : Byte) (b : List Byte) : Instr :=
  match kind.toNat with
  | 0x01 => .presence tag (bodyOf 0 readNone b)
  | 0x02 => .readFlags tag (bodyOf 12 readMask b)
  | 0x03 => .save tag (bodyOf 0 readNone b)
  | 0x04 => .restart tag (bodyOf 0 readNone b)
  | 0x08 => .configCarriage tag (bodyOf 52 readCarriage b)
  | 0x09 => .configStation tag (bodyOf 9 readStation b)
  | 0x0A => readPlates tag b
  | 0x0B => .configInterlock tag (bodyOf 14 readInterlock b)
  | 0x0C => readWeather tag b
  | 0x0D => .configPower tag (bodyOf 2 (fun b => halfAt b 0) b)
  | 0x0E => .configNotices tag (bodyOf 19 readNotices b)
  | 0x10 => .move tag (bodyOf 7 readMove b)
  | 0x11 => .seek tag (bodyOf 6 readSeek b)
  | 0x12 => .stop tag (bodyOf 1 readByte b)
  | 0x13 => .resume tag (bodyOf 1 readByte b)
  | 0x14 => .clear tag (bodyOf 1 readByte b)
  | 0x18 => readStationService tag b
  | 0x19 => .ringQuiet tag (bodyOf 1 readByte b)
  | 0x1A => .ringWake tag (bodyOf 8 readWake b)
  | 0x20 => .queryCarriage tag (bodyOf 3 readCarriageQuery b)
  | 0x21 => .queryStation tag (bodyOf 1 readByte b)
  | 0x22 => .queryRing tag (bodyOf 1 readByte b)
  | 0x23 => .queryWeather tag (bodyOf 1 readByte b)
  | 0x24 => .queryPower tag (bodyOf 0 readNone b)
  | k => if k = 0 || 0x40 ≤ k then .notAnOrder kind tag else .unassignedOrderKind kind tag

/-- R168, R169: the command of a frame on the line, given the characters after its sync byte: its length byte, L bytes
of kind, tag and body, and two check bytes. A length byte below 2 or above 200 abandons it at once; fewer characters than
it announces, none at all included, end in a gap; a check that disagrees discards it. -/
def frameCommand (chars : List Byte) : Instr :=
  match chars with
  | [] => .frameGap
  | first :: _ =>
    let length := first.toNat
    if length < 2 || 200 < length then .frameAbandoned .length
    else if chars.length < length + 3 then .frameGap
    else if crc16 (chars.take (length + 1)) ≠ halfAt chars (length + 1) then .frameCheckFailed
    else frameOrder (byteAt chars 1) (byteAt chars 2) ((chars.drop 3).take (length - 2))

/-! ## The receiver on the line (R169) -/

/-- What the line brings the receiver: a character, a line error, or a pause of more than 20 ms. -/
inductive LineEvent
  | char (b : Byte)
  | error
  | gap
  deriving DecidableEq, Repr

/-- R169: the characters taken are all that the frame has: its length byte is out of range, or its last check byte has
arrived. -/
def frameEnds (chars : List Byte) : Bool :=
  match chars with
  | [] => false
  | first :: _ => first.toNat < 2 || 200 < first.toNat || chars.length = first.toNat + 3

/-- R169: one line event: the receiver hunts for the sync byte, takes the characters of a frame up to its end, and hunts
again from the next character after its end or its failure. A command comes at each end and at each failure. -/
def Receiver.take (r : Receiver) (e : LineEvent) : Receiver × Option Instr :=
  match r, e with
  | .hunting, .char b => (if b = syncByte then .taking [] else .hunting, none)
  | .hunting, .error => (.hunting, none)
  | .hunting, .gap => (.hunting, none)
  | .taking chars, .char b =>
    if frameEnds (chars ++ [b]) then (.hunting, some (frameCommand (chars ++ [b]))) else (.taking (chars ++ [b]), none)
  | .taking _, .error => (.hunting, some (.frameAbandoned .line))
  | .taking _, .gap => (.hunting, some .frameGap)

/-- R169: the commands that a list of line events stands for, while nothing resets the receiver (State.hear). -/
def commandsOf (r : Receiver) : List LineEvent → List Instr
  | [] => []
  | e :: es =>
    match r.take e with
    | (next, some i) => i :: commandsOf next es
    | (next, none) => commandsOf next es

/-! ## The bodies of the orders as the host codes them (R172, R173) -/

/-- CONFIG_CARRIAGE: carriage, then the fields of R8. -/
def carriageBytes (b : CarriageBody) : List Byte :=
  [b.carriage, b.enabled, b.kind, b.ring, b.railCount] ++ wordBytes b.travelMin ++ wordBytes b.travelMax ++
  wordBytes b.refuge ++ halfBytes b.maxSpeed ++ [b.creepSpeed, b.acceleration, b.deceleration] ++
  halfBytes b.trimGain ++ [b.trimLimit] ++ halfBytes b.skewWarn ++ halfBytes b.skewTrip ++
  halfBytes b.deviationLimit ++ halfBytes b.slipLimit ++ [b.arrivalTolerance, b.standstillBand] ++
  halfBytes b.overtravelMargin ++ halfBytes b.reversalDwell ++ halfBytes b.releaseTimeout ++
  halfBytes b.setTimeout ++ [b.blindTolerance, b.minStations] ++ halfBytes b.blockTimeout ++
  halfBytes b.grantTimeout ++ [b.priority, b.resumeWind, b.resumeLoss]

/-- One entry of CONFIG_PLATES (R173). -/
def plateBytes (b : PlateBody) : List Byte := halfBytes b.id ++ wordBytes b.position ++ [b.mask]

/-- The bytes of an order's body with its fields, in the order in which its rule lists them; commands that are no order,
and bodies of another length, have none. -/
def orderBody : Instr → Option (List Byte)
  | .presence _ (.fields _) | .save _ (.fields _) | .restart _ (.fields _) | .queryPower _ (.fields _) => some []
  | .readFlags _ (.fields mask) => some ((List.range 12).map fun i => mask.extractLsb' (8 * i) 8)
  | .configCarriage _ (.fields b) => some (carriageBytes b)
  | .configStation _ (.fields b) => some ([b.station, b.enabled, b.carriage, b.rail, b.node] ++ wordBytes b.mount)
  | .configPlates _ (.fields b) =>
    some ([b.carriage, b.start, BitVec.ofNat 8 b.entries.length] ++ b.entries.flatMap plateBytes)
  | .configInterlock _ (.fields b) =>
    some ([b.index, b.enabled, b.carriageA, b.directionA] ++ wordBytes b.limitA ++ [b.carriageB, b.directionB] ++
      wordBytes b.thresholdB)
  | .configWeatherSite _ (.fields b) =>
    some ([b.selector] ++ b.enabled.toList ++ b.gain.toList.flatMap halfBytes ++ b.gust.toList.flatMap halfBytes ++
      b.mean.toList.flatMap halfBytes ++ [b.hysteresis] ++ halfBytes b.descentDwell ++ [b.blindLevel, b.startLevel])
  | .configWeatherCarriage _ (.fields b) => some ([b.selector] ++ b.actions.toList ++ b.caps.toList)
  | .configPower _ (.fields b) => some (halfBytes b)
  | .configNotices _ (.fields b) => some ([b.master] ++ b.classes.toList ++ halfBytes b.silence)
  | .move _ (.fields b) => some ([b.carriage] ++ wordBytes b.target ++ halfBytes b.speedLimit)
  | .seek _ (.fields b) => some ([b.carriage, b.direction] ++ halfBytes b.distance ++ halfBytes b.speedLimit)
  | .stop _ (.fields b) | .resume _ (.fields b) | .clear _ (.fields b) | .ringQuiet _ (.fields b)
  | .queryStation _ (.fields b) | .queryRing _ (.fields b) | .queryWeather _ (.fields b) => some [b]
  | .retire _ (.fields b) | .restore _ (.fields b) => some [b.station, b.action]
  | .ringWake _ (.fields b) =>
    some ([b.ring, b.period, b.nodes] ++ halfBytes b.sampleLead ++ halfBytes b.ageLimit ++ [b.lossLimit])
  | .queryCarriage _ (.fields b) => some [b.carriage, b.view, b.start]
  | .presence _ .wrongLength | .save _ .wrongLength | .restart _ .wrongLength | .queryPower _ .wrongLength
  | .readFlags _ .wrongLength | .configCarriage _ .wrongLength | .configStation _ .wrongLength
  | .configPlates _ .wrongLength | .configInterlock _ .wrongLength | .configWeatherSite _ .wrongLength
  | .configWeatherCarriage _ .wrongLength | .configPower _ .wrongLength | .configNotices _ .wrongLength
  | .move _ .wrongLength | .seek _ .wrongLength | .stop _ .wrongLength | .resume _ .wrongLength
  | .clear _ .wrongLength | .ringQuiet _ .wrongLength | .queryStation _ .wrongLength | .queryRing _ .wrongLength
  | .queryWeather _ .wrongLength | .retire _ .wrongLength | .restore _ .wrongLength | .ringWake _ .wrongLength
  | .queryCarriage _ .wrongLength | .unassignedOrderKind .. | .notAnOrder .. | .overrun | .frameAbandoned _
  | .frameGap | .frameCheckFailed | .frameSent | .restartReset _ | .powerOn .. | .resetHeld | .resetRelease ..
  | .estopOn | .estopOff | .rainOn | .rainOff | .anemometerPulse _ | .roundStart _ | .copyArrival .. | .roundClose ..
  | .controlStep _ | .tripCause .. | .holdCause .. | .holdCauseCleared .. | .grantAttempt | .grantTimeout _
  | .brakeReleaseTimeout _ | .brakeSetTimeout _ | .dwellTimerExpiry _ | .blockTimeout _ | .weatherTimerExpiry
  | .descent | .silenceTimerExpiry | .storeDone _ | .powerLoss => none

end Sys2Proof.Machine
end

