-- ==== Sys2Proof/Machine/Line.lean ====
section
/-! DEFINITION. The host line itself: the levels of a character (R167), what the receiver makes of them, and a line event
that reaches the module: the receiver of the record takes it, and a command that it ends is taken at once (R169). The
levels and the moment at which a gap begins are fixed as log entry 50 says. -/

namespace Sys2Proof.Machine

/-! ## Characters (R167) -/

/-- R167, R186: the line speed in baud. -/
def Baud.rate : Baud → Nat
  | .b57600 => 57600
  | .b115200 => 115200
  | .b230400 => 230400

/-- R167: the levels of a character: one start bit, eight data bits sent least significant bit first, no parity bit, one
stop bit. The idle level and the stop bit are 1, the start bit is 0 (log entry 50). -/
def charLevels (b : Byte) : List Bool :=
  [false, b.getLsbD 0, b.getLsbD 1, b.getLsbD 2, b.getLsbD 3, b.getLsbD 4, b.getLsbD 5, b.getLsbD 6, b.getLsbD 7, true]

/-- R167: the data bits of a character, the least significant first. -/
def byteOfLevels (b0 b1 b2 b3 b4 b5 b6 b7 : Bool) : Byte :=
  BitVec.ofBool b7 ++ BitVec.ofBool b6 ++ BitVec.ofBool b5 ++ BitVec.ofBool b4 ++ BitVec.ofBool b3 ++ BitVec.ofBool b2 ++
    BitVec.ofBool b1 ++ BitVec.ofBool b0

/-- R169: the bit times in 20 ms. -/
def gapLimit (speed : Baud) : Nat := speed.rate / 50

/-- R167, R169: what a run of levels, one for each bit time, brings the receiver: a character for a start bit, eight data
bits and a stop bit; a line error where the stop bit is missing; a gap when the line has idled for more than limit bit
times, of which idle have passed. A character that has not ended brings nothing yet. -/
def lineEvents (limit : Nat) : Nat → List Bool → List LineEvent
  | idle, true :: rest =>
    if idle = limit then .gap :: lineEvents limit (idle + 1) rest else lineEvents limit (idle + 1) rest
  | _, false :: b0 :: b1 :: b2 :: b3 :: b4 :: b5 :: b6 :: b7 :: stop :: rest =>
    (if stop then .char (byteOfLevels b0 b1 b2 b3 b4 b5 b6 b7) else .error) :: lineEvents limit 0 rest
  | _, _ => []

/-- R167: the levels the transmitter puts on the host line: the characters of the frame being sent, back to back. -/
def State.lineLevels (s : State) : List Bool := s.lineOut.flatMap charLevels

/-! ## A line event at the module (R169, R182, R185) -/

/-- The receiver of the record. -/
def State.withReceiver (s : State) (r : Receiver) : State := { s with link := { s.link with receiver := r } }

/-- R169: a line event reaches the module: the receiver takes it, and the command it ends is taken at once. A module that
is held or without supply takes no frames (R185). A reset sets the receiver hunting, so a frame whose first characters
came before it is dropped (R182). -/
def State.hear (s : State) (e : LineEvent) : Host.Outcome State Fault Refusal :=
  match s.power with
  | .running =>
    match s.link.receiver.take e with
    | (r, none) => .next (s.withReceiver r)
    | (r, some i) => exec i (s.withReceiver r)
  | .held => .next s
  | .off => .next s

/-- Line events one after the other, with no other command between them. -/
def State.hearAll (s : State) : List LineEvent → Host.Outcome State Fault Refusal
  | [] => .next s
  | e :: es =>
    match s.hear e with
    | .next t => t.hearAll es
    | .fault f => .fault f
    | .refused r => .refused r

end Sys2Proof.Machine
end

