-- ==== Sys2Proof/Safety.lean ====
section
/-! DEFINITION. What the statements about this machine speak of: safe steps, the answers on their way to the host, and
the invariants that every step keeps. -/

namespace Sys2Proof.Machine

/-- An outcome is a next state. -/
def isNext (o : Host.Outcome State Fault Refusal) : Prop := ∃ t, o = .next t

/-- A state is safe when its step answers a next state. -/
def Safe (s : State) : Prop := isNext (step s)

/-! ## Views -/

/-- The answer being sent, if the transmitter is sending one. -/
def OutFrame.answer? : OutFrame → Option Answer
  | .answer a => some a
  | .notice .. => none

/-- The answers outstanding, the one being sent first, then the answer queue from its head (R170, R171). -/
def Link.answersOut (l : Link) : List Answer := (l.sending.bind OutFrame.answer?).toList ++ l.answers

/-- The Link Unit takes orders: the module runs, fewer than 8 answers are outstanding, and no RESTART awaits its reset
(R170, R185). -/
def State.takesOrders (s : State) : Prop :=
  s.power = .running ∧ s.link.outstanding < answerCapacity ∧ s.link.restartPending = false

/-- t answers one order more than s did (R171). -/
def Answered (s t : State) (kind tag : Byte) (result : Result) (data : AnswerData) : Prop :=
  t.link.answersOut = s.link.answersOut ++ [⟨kind + 0x40, tag, result, data⟩]

/-- Everything but the carriages, the Arbiter, the Link Unit, the messages between blocks and the outputs is as it was. -/
def SamePlant (s t : State) : Prop :=
  t.pending = s.pending ∧ t.power = s.power ∧ t.settings = s.settings ∧ t.stations = s.stations ∧
  t.ringA = s.ringA ∧ t.ringB = s.ringB ∧ t.weather = s.weather ∧ t.store = s.store ∧ t.lines = s.lines ∧
  t.baud = s.baud ∧ t.fieldTime = s.fieldTime

/-- Everything but the Link Unit, the messages between blocks and the outputs is as it was. -/
def SameButLink (s t : State) : Prop :=
  SamePlant s t ∧ t.carriages = s.carriages ∧ t.arbiter = s.arbiter ∧ t.freeCount = s.freeCount

/-- Everything is as a valid frame leaves it (R170 step 1), but for the answers outstanding, the frame being sent and the
outputs. -/
def OnlyAnswered (s t : State) : Prop :=
  SameButLink s t ∧ t.posts = s.validFrame.posts ∧ t.link.flags = s.link.flags ∧ t.link.urgent = s.link.urgent ∧
  t.link.routine = s.link.routine ∧ t.link.urgentLost = s.link.urgentLost ∧
  t.link.routineLost = s.link.routineLost ∧ t.link.sequence = s.link.sequence ∧
  t.link.restartPending = s.link.restartPending ∧ t.link.lastError = s.link.lastError ∧
  t.link.receiver = .hunting ∧ t.link.silence = s.validFrame.link.silence

/-- Every other carriage's record is as it was. -/
def OtherCarriages (s t : State) (c : Fin 6) : Prop := ∀ d, d ≠ c → t.car d = s.car d

/-- R113: the running module, whose engine of carriage c has a sample set m to make its next control step on, and the
messages that then still wait; the carriage's ring is not QUIET. -/
def State.stepsOn (s : State) (c : Fin 6) (m : SampleSet) (rest : List Post) : Prop :=
  s.power = .running ∧ (s.ring (s.cfg c).ring).state ≠ .quiet ∧ oldestSample c s.posts = some (m, rest)

/-- R46, R48: the round f of ring r is in flight in CLOSED, nothing of it has returned, and these bytes are a valid copy
of it. -/
def State.awaitsCopy (s : State) (r : RingId) (f : Round) (bytes : List Byte) : Prop :=
  s.power = .running ∧ (s.ring r).inFlight = some f ∧ (s.ring r).state = .closed ∧ f.openMode = false ∧
  f.copy2 = none ∧ bytes.length = 42 + 16 * (s.ringCfg r).nodes ∧ byteAt bytes 0 = (if r = .a then 1 else 2) ∧
  halfAt bytes 2 = f.sequence

/-- R46 to R48: command i completes the round in flight on ring r, f being that round with the copies it then has: a valid
copy that is the last one expected, or round close with whatever has returned. -/
def State.completes (s : State) (r : RingId) (i : Instr) (f : Round) : Prop :=
  s.power = .running ∧
  ((∃ signals, i = .roundClose r signals ∧ (s.ring r).inFlight = some f) ∨
    ∃ port bytes signals f0, i = .copyArrival r port false bytes signals ∧ (s.ring r).inFlight = some f0 ∧
      bytes.length = 42 + 16 * (s.ringCfg r).nodes ∧ byteAt bytes 0 = (if r = .a then 1 else 2) ∧
      halfAt bytes 2 = f0.sequence ∧
      ((port = .one ∧ f0.openMode = true ∧ f0.copy1 = none ∧ f0.copy2 ≠ none ∧ f = { f0 with copy1 := some bytes }) ∨
        (port = .two ∧ f0.copy2 = none ∧ (f0.openMode = true → f0.copy1 ≠ none) ∧
          f = { f0 with copy2 := some bytes })))

/-- R113: no part of a control step before the speed step trips a carriage in motion on this sample set. -/
def State.tripFree (s : State) (c : Fin 6) (m : SampleSet) : Prop :=
  m.trip = none ∧ skewTrips (s.cfg c) m = false ∧ overtravels (s.cfg c) m = false

/-! ## Invariants -/

/-- R145, R146, R150: a carriage holds a grant exactly when it is in RELEASING, MOVING, BLOCKED or STOPPING, and stands
in the grant queue exactly when it is in AWAIT_POWER, each once; the granted sum is the sum of the needs granted, and it
never exceeds the budget. -/
def PowerSound (s : State) : Prop :=
  (∀ c, c ∈ s.arbiter.grants.map Grant.carriage ↔ (s.car c).state.inMotion = true) ∧
  (s.arbiter.grants.map Grant.carriage).Nodup ∧
  (∀ c, c ∈ s.arbiter.queue.map Waiting.carriage ↔ (s.car c).state = .awaitPower) ∧
  (s.arbiter.queue.map Waiting.carriage).Nodup ∧
  s.arbiter.grantedSum = (s.arbiter.grants.map Grant.need).sum ∧
  s.arbiter.grantedSum ≤ s.settings.budget

/-- R170, R179: at most 8 answers outstanding, 16 urgent and 48 routine notices. -/
def LinkBounded (s : State) : Prop :=
  s.link.outstanding ≤ answerCapacity ∧ s.link.urgent.length ≤ urgentCapacity ∧
  s.link.routine.length ≤ routineCapacity

/-- The states in which a carriage has a current or frozen order (R99, R102). -/
def CarriageState.hasOrder : CarriageState → Bool
  | .awaitPower | .releasing | .moving | .blocked | .stopping .hold _ => true
  | .parked | .stopping .ending _ | .held | .tripped _ => false

/-- MOVING, or the ramp stage of STOPPING: the states in which the commanded speed may differ from 0 (R114). -/
def CarriageState.mayMove : CarriageState → Bool
  | .moving | .stopping _ .ramp => true
  | .parked | .awaitPower | .releasing | .blocked | .stopping _ .brake | .held | .tripped _ => false

/-- R14, R99, R102: a carriage has an order exactly in the states that have one, a resume record exactly in HELD, a
trip cause exactly in TRIPPED, and a phase only in MOVING. -/
def Carriage.recordSound (k : Carriage) : Prop :=
  k.order.isSome = k.state.hasOrder ∧ k.resume.isSome = decide (k.state = .held) ∧
  k.tripCause.isSome = k.state.isTripped ∧ (k.phase.isSome = true → k.state = .moving)

/-- Every carriage record is sound. -/
def RecordsSound (s : State) : Prop := ∀ c, (s.car c).recordSound

/-- R125: a rail setpoint is zero or of the same sign as the commanded speed, it is zero when the commanded speed is
zero, and its magnitude exceeds that of the commanded speed by the trim limit at most. -/
def setpointLaw (v : Int) (trimLimit : Nat) (setpoint : Int) : Prop :=
  (0 ≤ v → 0 ≤ setpoint) ∧ (v ≤ 0 → setpoint ≤ 0) ∧ setpoint.natAbs ≤ v.natAbs + trimLimit

/-- R114, R115, R125: outside MOVING and the ramp stage the commanded speed is 0, it never exceeds the max speed, and
every rail setpoint obeys the law of R125. -/
def SpeedsSound (s : State) : Prop :=
  ∀ c, ((s.car c).state.mayMove = false → (s.car c).vCmd = 0) ∧ (s.car c).vCmd.natAbs ≤ (s.cfg c).maxSpeed ∧
    ∀ r : Fin 4, setpointLaw (s.car c).vCmd (s.cfg c).trimLimit (s.car c).rails[r].setpoint

/-- R185, R187: while the module runs, READY is on exactly while ESTOP is released and no reset of a RESTART is due, and
MOTION exactly while a carriage is in motion; while it is held or without supply both are off. -/
def OutputsSound (s : State) : Prop :=
  match s.power with
  | .running => s.ready = (!s.lines.estop && !s.link.restartDue) ∧ s.motion = s.anyInMotion
  | .held | .off => s.ready = false ∧ s.motion = false

/-- R61: no service queue holds more than 16 requests. -/
def ServiceBounded (s : State) : Prop :=
  s.ringA.queue.length ≤ serviceCapacity ∧ s.ringB.queue.length ≤ serviceCapacity

/-! ## The host's orders -/

/-- The kind and the tag of the frame an order stands for (R173); the other commands are no orders. -/
def orderFrame : Instr → Option (Byte × Byte)
  | .presence tag _ => some (0x01, tag)
  | .readFlags tag _ => some (0x02, tag)
  | .save tag _ => some (0x03, tag)
  | .restart tag _ => some (0x04, tag)
  | .configCarriage tag _ => some (0x08, tag)
  | .configStation tag _ => some (0x09, tag)
  | .configPlates tag _ => some (0x0A, tag)
  | .configInterlock tag _ => some (0x0B, tag)
  | .configWeatherSite tag _ => some (0x0C, tag)
  | .configWeatherCarriage tag _ => some (0x0C, tag)
  | .configPower tag _ => some (0x0D, tag)
  | .configNotices tag _ => some (0x0E, tag)
  | .move tag _ => some (0x10, tag)
  | .seek tag _ => some (0x11, tag)
  | .stop tag _ => some (0x12, tag)
  | .resume tag _ => some (0x13, tag)
  | .clear tag _ => some (0x14, tag)
  | .retire tag _ => some (0x18, tag)
  | .restore tag _ => some (0x18, tag)
  | .ringQuiet tag _ => some (0x19, tag)
  | .ringWake tag _ => some (0x1A, tag)
  | .queryCarriage tag _ => some (0x20, tag)
  | .queryStation tag _ => some (0x21, tag)
  | .queryRing tag _ => some (0x22, tag)
  | .queryWeather tag _ => some (0x23, tag)
  | .queryPower tag _ => some (0x24, tag)
  | .unassignedOrderKind kind tag => some (kind, tag)
  | .notAnOrder .. | .overrun | .frameAbandoned _ | .frameGap | .frameCheckFailed | .frameSent | .restartReset _
  | .powerOn .. | .resetHeld | .resetRelease .. | .estopOn | .estopOff | .rainOn | .rainOff | .anemometerPulse _
  | .roundStart _ | .copyArrival .. | .roundClose .. | .controlStep _ | .tripCause .. | .holdCause ..
  | .holdCauseCleared .. | .grantAttempt | .grantTimeout _ | .brakeReleaseTimeout _ | .brakeSetTimeout _
  | .dwellTimerExpiry _ | .blockTimeout _ | .weatherTimerExpiry | .descent | .silenceTimerExpiry | .storeDone _
  | .powerLoss => none

/-- A body of the wrong length. -/
def bodyIsWrong {α : Type} : Body α → Bool
  | .wrongLength => true
  | .fields _ => false

/-- An order whose body has the wrong length (R171). -/
def wrongLength : Instr → Bool
  | .presence _ b => bodyIsWrong b
  | .readFlags _ b => bodyIsWrong b
  | .save _ b => bodyIsWrong b
  | .restart _ b => bodyIsWrong b
  | .configCarriage _ b => bodyIsWrong b
  | .configStation _ b => bodyIsWrong b
  | .configPlates _ b => bodyIsWrong b
  | .configInterlock _ b => bodyIsWrong b
  | .configWeatherSite _ b => bodyIsWrong b
  | .configWeatherCarriage _ b => bodyIsWrong b
  | .configPower _ b => bodyIsWrong b
  | .configNotices _ b => bodyIsWrong b
  | .move _ b => bodyIsWrong b
  | .seek _ b => bodyIsWrong b
  | .stop _ b => bodyIsWrong b
  | .resume _ b => bodyIsWrong b
  | .clear _ b => bodyIsWrong b
  | .retire _ b => bodyIsWrong b
  | .restore _ b => bodyIsWrong b
  | .ringQuiet _ b => bodyIsWrong b
  | .ringWake _ b => bodyIsWrong b
  | .queryCarriage _ b => bodyIsWrong b
  | .queryStation _ b => bodyIsWrong b
  | .queryRing _ b => bodyIsWrong b
  | .queryWeather _ b => bodyIsWrong b
  | .queryPower _ b => bodyIsWrong b
  | .unassignedOrderKind .. | .notAnOrder .. | .overrun | .frameAbandoned _ | .frameGap | .frameCheckFailed
  | .frameSent | .restartReset _ | .powerOn .. | .resetHeld | .resetRelease .. | .estopOn | .estopOff | .rainOn
  | .rainOff | .anemometerPulse _ | .roundStart _ | .copyArrival .. | .roundClose .. | .controlStep _ | .tripCause ..
  | .holdCause .. | .holdCauseCleared .. | .grantAttempt | .grantTimeout _ | .brakeReleaseTimeout _
  | .brakeSetTimeout _ | .dwellTimerExpiry _ | .blockTimeout _ | .weatherTimerExpiry | .descent
  | .silenceTimerExpiry | .storeDone _ | .powerLoss => false

/-- The four commands that start or stop the module itself (R185). -/
def switchesModule : Instr → Bool
  | .powerOn .. | .resetHeld | .resetRelease .. | .powerLoss => true
  | .presence .. | .readFlags .. | .save .. | .restart .. | .configCarriage .. | .configStation .. | .configPlates ..
  | .configInterlock .. | .configWeatherSite .. | .configWeatherCarriage .. | .configPower .. | .configNotices ..
  | .move .. | .seek .. | .stop .. | .resume .. | .clear .. | .retire .. | .restore .. | .ringQuiet .. | .ringWake ..
  | .queryCarriage .. | .queryStation .. | .queryRing .. | .queryWeather .. | .queryPower ..
  | .unassignedOrderKind .. | .notAnOrder .. | .overrun | .frameAbandoned _ | .frameGap | .frameCheckFailed
  | .frameSent | .restartReset _ | .estopOn | .estopOff | .rainOn | .rainOff | .anemometerPulse _ | .roundStart _
  | .copyArrival .. | .roundClose .. | .controlStep _ | .tripCause .. | .holdCause .. | .holdCauseCleared ..
  | .grantAttempt | .grantTimeout _ | .brakeReleaseTimeout _ | .brakeSetTimeout _ | .dwellTimerExpiry _
  | .blockTimeout _ | .weatherTimerExpiry | .descent | .silenceTimerExpiry | .storeDone _ => false

/-- Done: OK or OK_CLAMPED (R174). -/
def Result.done : Result → Bool
  | .ok | .okClamped => true
  | .refusedFormat | .refusedRange | .refusedState | .refusedWind | .refusedPower | .refusedEstop | .refusedBusy => false

/-- A carriage's number as the byte that names it. -/
def carriageByte (c : Fin 6) : Byte := BitVec.ofNat 8 c.val

/-- A station's number as the byte that names it. -/
def stationByte (n : Fin 64) : Byte := BitVec.ofNat 8 n.val

/-- A ring's word (R172). -/
def ringByte : RingId → Byte
  | .a => 0
  | .b => 1

/-- R173: the body lengths of an order kind; CONFIG_PLATES has a length for each entry count. -/
def bodyLengths (kind : Nat) : List Nat :=
  match kind with
  | 0x01 | 0x03 | 0x04 | 0x24 => [0]
  | 0x12 | 0x13 | 0x14 | 0x19 | 0x21 | 0x22 | 0x23 => [1]
  | 0x0D | 0x18 => [2]
  | 0x20 => [3]
  | 0x11 => [6]
  | 0x10 => [7]
  | 0x1A => [8]
  | 0x09 => [9]
  | 0x02 => [12]
  | 0x0B => [14]
  | 0x0E => [19]
  | 0x0C => [7, 30]
  | 0x08 => [52]
  | _ => []

/-! ## The values after a reset -/

/-- R185, R178: an ESTOP asserted at the end of a reset has a notice. -/
def State.noticesEstop (t : State) (lines : Lines) : Bool :=
  lines.estop && t.settings.notices.master && decide (t.settings.notices.classes[(12 : Fin 16)] ≠ 0)

/-- Every block holds the values that its chapter lists after either reset (R15, R38, R44, R66, R153, R166, R182), for
the working settings t then has and the lines as they stand; where the chapters list no value, that of log entry 6. The
event flags are clear but for STORE_BLANK, and for ESTOP_ON when ESTOP is asserted, whose notice is then being sent. -/
def StartedAfresh (t : State) (lines : Lines) : Prop :=
  t.power = .running ∧ t.lines = lines ∧ t.fieldTime = 0 ∧ t.posts = [] ∧ t.ready = !lines.estop ∧
  t.motion = false ∧ (∀ c, t.car c = {}) ∧
  (∀ n, t.st n = { state := if (t.stCfg n).enabled then StationState.offline else .unused }) ∧
  (∀ r, t.ring r = if t.settings.serves r then { state := .closed, roundTimer := some ((t.ringCfg r).period * 1000) }
    else {}) ∧
  t.arbiter = {} ∧ t.weather = { level := t.weather.level, wet := lines.rain } ∧
  t.link = { flags := t.link.flags,
             sending := if t.noticesEstop lines then some (.notice 0 false (.emergencyStop true)) else none,
             sequence := if t.noticesEstop lines then 1 else 0 } ∧
  (∀ f, f ≠ .ofModule .storeBlank → t.link.flag f = (lines.estop && decide (f = .ofModule .estopOn)))

/-- A carriage's place in the order of grants at its entry to the queue (R145). -/
def State.newcomer (s : State) (c : Fin 6) : Waiting :=
  { carriage := c, priority := (s.cfg c).priority, need := s.need c, number := s.arbiter.counter,
    timer := (s.cfg c).grantTimeout * 1000000 }

/-- The carriage state a STOP leaves (R100). -/
def CarriageState.afterStop : CarriageState → CarriageState
  | .parked => .parked
  | .tripped b => .tripped b
  | .stopping .ending stage => .stopping .ending stage
  | .awaitPower => .parked
  | .releasing => .stopping .ending .ramp
  | .moving => .stopping .ending .ramp
  | .blocked => .stopping .ending .ramp
  | .stopping .hold stage => .stopping .ending stage
  | .held => .parked

end Sys2Proof.Machine
end

