-- ==== Sys2Proof/WellFormed.lean ====
section
/-! DEFINITION. Which commands name an event that can take place: the operands an event of that row can carry. -/

namespace Sys2Proof

/-- The order kinds R173 assigns. -/
def assignedKinds : List Nat :=
  [0x01, 0x02, 0x03, 0x04, 0x08, 0x09, 0x0A, 0x0B, 0x0C, 0x0D, 0x0E, 0x10, 0x11, 0x12, 0x13, 0x14,
   0x18, 0x19, 0x1A, 0x20, 0x21, 0x22, 0x23, 0x24]

/-- R168: order kinds lie in 01 to 3F hex. -/
def isOrderKind (kind : Byte) : Bool := 0x01 ≤ kind.toNat && kind.toNat ≤ 0x3F

/-- The trip causes that another block posts to an engine (R106: STATION_FAULT, LIMIT, RING_DOWN). -/
def isPostedTrip : TripCause → Bool
  | .stationFault | .limit | .ringDown => true
  | .skew | .overtravel | .railBlind | .railSplit | .brakeTimeout | .estop => false

/-- A command is well formed when its row's event can carry its operands. -/
def Instr.wellFormed : Instr → Bool
  | .configPlates _ (.fields b) => 1 ≤ b.entries.length && b.entries.length ≤ 20
  | .retire _ (.fields b) => b.action ≠ 1
  | .restore _ (.fields b) => b.action = 1
  | .unassignedOrderKind kind _ => isOrderKind kind && !assignedKinds.contains kind.toNat
  | .notAnOrder kind _ => !isOrderKind kind
  | .tripCause _ cause => isPostedTrip cause
  | .configPlates _ .wrongLength | .configWeatherSite _ _ | .configWeatherCarriage _ _
  | .retire _ .wrongLength | .restore _ .wrongLength
  | .presence _ _ | .readFlags _ _ | .save _ _ | .restart _ _ | .configCarriage _ _ | .configStation _ _
  | .configInterlock _ _ | .configPower _ _ | .configNotices _ _ | .move _ _ | .seek _ _ | .stop _ _
  | .resume _ _ | .clear _ _ | .ringQuiet _ _ | .ringWake _ _ | .queryCarriage _ _ | .queryStation _ _
  | .queryRing _ _ | .queryWeather _ _ | .queryPower _ _ | .overrun | .frameAbandoned _ | .frameGap
  | .frameCheckFailed | .frameSent | .restartReset _ | .powerOn _ _ | .resetHeld | .resetRelease _ _
  | .estopOn | .estopOff | .rainOn | .rainOff | .anemometerPulse _ | .roundStart _
  | .copyArrival _ _ _ _ _ | .roundClose _ _ | .controlStep _ | .holdCause _ _ | .holdCauseCleared _ _
  | .grantAttempt | .grantTimeout _ | .brakeReleaseTimeout _ | .brakeSetTimeout _ | .dwellTimerExpiry _
  | .blockTimeout _ | .weatherTimerExpiry | .descent | .silenceTimerExpiry | .storeDone _ | .powerLoss => true

end Sys2Proof
end

