-- ==== Sys2Proof/Certificates/Slice0/Obligations.lean ====
section
/-! DEFINITION. The statements for the provers, from the numbered rules of spec/. -/

open Sys2Proof Sys2Proof.Machine

/-! ## The block and its queue -/

/-- The front command of the queue is what a step runs, on the state with the queue's rest. -/
def Obligations.StepRunsTheFrontCommand : Prop :=
  ∀ (i : Instr) (rest : List Instr) (s : State), s.pending = i :: rest → step s = exec i { s with pending := rest }

/-- The model's choice (log entry 3): on an empty queue one microsecond passes while the module runs; the field time,
32 bits wide, rises by 1, every running timer loses 1 and stops at 0, and nothing else changes; nothing at all changes
while it is held or without supply. -/
def Obligations.EmptyQueueLetsTimePass : Prop :=
  ∀ s : State, s.pending = [] →
    (s.power = .running →
      ∃ t, step s = .next t ∧ t.fieldTime = s.fieldTime + 1 ∧ t.pending = s.pending ∧ t.power = s.power ∧
        t.settings = s.settings ∧ t.stations = s.stations ∧ t.posts = s.posts ∧ t.store = s.store ∧
        t.lines = s.lines ∧ t.baud = s.baud ∧ t.ready = s.ready ∧ t.motion = s.motion ∧ t.freeCount = s.freeCount ∧
        (∀ c, t.car c = { s.car c with
          dwellTimer := (s.car c).dwellTimer.map (· - 1), blockTimer := (s.car c).blockTimer.map (· - 1),
          releaseTimer := (s.car c).releaseTimer.map (· - 1), setTimer := (s.car c).setTimer.map (· - 1) }) ∧
        (∀ r, t.ring r = { s.ring r with
          roundTimer := (s.ring r).roundTimer.map (· - 1), closeTimer := (s.ring r).closeTimer.map (· - 1) }) ∧
        t.arbiter = { s.arbiter with queue := s.arbiter.queue.map fun w => { w with timer := w.timer - 1 } } ∧
        t.weather = { s.weather with weatherTimer := s.weather.weatherTimer - 1,
                                     descentTimer := s.weather.descentTimer.map (· - 1) } ∧
        t.link = { s.link with silence := t.link.silence } ∧
        (∀ left, s.link.silence = .running left → t.link.silence = .running (left - 1)) ∧
        ((s.link.silence = .disarmed ∨ s.link.silence = .expired) → t.link.silence = s.link.silence)) ∧
    (s.power ≠ .running → step s = .next s)

/-- No command faults or is refused by the model, every step answers a next state, and no command touches the queue of
the commands that wait (the wire protocol's own refusals are answers: R174). -/
def Obligations.EveryCommandAnswersNext : Prop :=
  (∀ (i : Instr) (s t : State), exec i s = .next t → t.pending = s.pending) ∧
  (∀ s : State, Safe s)

/-- R185, R187: RESET held low holds a module that has supply, and the loss of the supply stops it; READY and MOTION
go off; the loss abandons a write. While it is held or without supply no command but those of supply and RESET changes
anything (log entry 17), and it takes nothing from the host line. -/
def Obligations.NothingHappensWhileNotRunning : Prop :=
  (∀ (i : Instr) (s : State), s.power ≠ .running → switchesModule i = false → exec i s = .next s) ∧
  (∀ (e : LineEvent) (s : State), s.power ≠ .running → s.hear e = .next s) ∧
  (∀ s : State,
    (s.power ≠ .off → exec .resetHeld s = .next { s with power := .held, ready := false, motion := false }) ∧
    exec .powerLoss s = .next { s with power := .off, ready := false, motion := false,
                                       store := { s.store with write := none } })

/-! ## The resets -/

/-- State.reset satisfies every invariant stated below. -/
def Obligations.ResetSatisfiesTheInvariants : Prop :=
  PowerSound State.reset ∧ LinkBounded State.reset ∧ RecordsSound State.reset ∧ SpeedsSound State.reset ∧
  OutputsSound State.reset ∧ ServiceBounded State.reset

/-- R182, R183, R185: POWER_ON, and RESET_RELEASE while the module has supply, load the valid image with the larger
generation, slot 0 on a tie, or the defaults; an image is valid when its check agrees; STORE_BLANK is set exactly when
none was valid; the straps give the line speed; a write is abandoned; every block starts afresh at the start level.
The record values that no chapter lists are those of log entry 6, the bytes under the check those of log entry 16, and
a RESET_RELEASE is a cold start in every phase with supply (log entry 17). -/
def Obligations.ColdStartLoadsTheStore : Prop :=
  (∀ x : Image, x.valid = true ↔ x.check = crc16 (imageBytes x.generation x.settings)) ∧
  (∀ (s : State) (lines : Lines) (straps : Straps) (i : Instr),
    (i = .powerOn lines straps ∨ (i = .resetRelease lines straps ∧ s.power ≠ .off)) →
    ∃ t, exec i s = .next t ∧ StartedAfresh t lines ∧
      ((∀ x, s.store.slot0 = some x → x.valid = false) → (∀ y, s.store.slot1 = some y → y.valid = false) →
        t.settings = {} ∧ t.link.flag (.ofModule .storeBlank) = true ∧ t.store.generation = 0 ∧
        t.store.current = .slot1) ∧
      (∀ x, s.store.slot0 = some x → x.valid = true →
        (∀ y, s.store.slot1 = some y → y.valid = true → y.generation ≤ x.generation) →
        t.settings = x.settings ∧ t.link.flag (.ofModule .storeBlank) = false ∧ t.store.generation = x.generation ∧
        t.store.current = .slot0) ∧
      (∀ y, s.store.slot1 = some y → y.valid = true →
        (∀ x, s.store.slot0 = some x → x.valid = true → x.generation < y.generation) →
        t.settings = y.settings ∧ t.link.flag (.ofModule .storeBlank) = false ∧ t.store.generation = y.generation ∧
        t.store.current = .slot1) ∧
      t.store.slot0 = s.store.slot0 ∧ t.store.slot1 = s.store.slot1 ∧ t.store.write = none ∧
      t.weather.level = t.settings.site.startLevel ∧
      t.baud = (if straps.baud0 then Baud.b115200 else if straps.baud1 then .b230400 else .b57600))

/-- R161, R182, R185, R187: RESTART is accepted exactly when every carriage is PARKED, HELD or TRIPPED, and but for
its answer nothing changes until the reset. Once its answer has been sent READY is off and every block is reset;
settings, store, line speed and STORE_BLANK are kept, the site level does not fall, and a frame in reception is dropped:
its further characters find a receiver that hunts. The record values that no chapter lists are those of log entry 6; the
events of RESTART_RESET come in the running phase (log entry 17). -/
def Obligations.RestartResetsAtRest : Prop :=
  (∀ (s : State) (tag : Byte), s.takesOrders →
    ((∀ c, (s.car c).state = .parked ∨ (s.car c).state = .held ∨ (s.car c).state.isTripped = true) →
      ∃ t, exec (.restart tag (.fields ())) s = .next t ∧ Answered s t 0x04 tag .ok .none ∧
        t.link.restartPending = true ∧ SameButLink s t ∧ t.posts = s.validFrame.posts ∧
        t.link.flags = s.link.flags ∧ t.link.urgent = s.link.urgent ∧ t.link.routine = s.link.routine ∧
        t.link.sequence = s.link.sequence) ∧
    ((∃ c, (s.car c).state ≠ .parked ∧ (s.car c).state ≠ .held ∧ (s.car c).state.isTripped = false) →
      ∃ t, exec (.restart tag (.fields ())) s = .next t ∧ Answered s t 0x04 tag .refusedState .none ∧
        t.link.restartPending = false ∧ OnlyAnswered s t)) ∧
  (∀ s : State, s.power = .running → s.link.restartPending = true → s.link.answers = [] →
    ∃ t, exec .frameSent s = .next t ∧ t.ready = false ∧ t.link.sending = none ∧ t.link.restartPending = true) ∧
  (∀ (s : State) (lines : Lines), s.power = .running → s.link.restartPending = true → s.link.answers = [] →
    s.link.sending = none →
    ∃ t, exec (.restartReset lines) s = .next t ∧ StartedAfresh t lines ∧ t.settings = s.settings ∧
      t.store = s.store ∧ t.baud = s.baud ∧
      t.link.flag (.ofModule .storeBlank) = s.link.flag (.ofModule .storeBlank) ∧
      t.weather.level.val = max s.settings.site.startLevel.val s.weather.level.val ∧
      t.link.receiver = .hunting ∧ ∀ b, b ≠ 0xA5 → t.hear (.char b) = .next t)

/-! ## Frames, answers and notices -/

/-- R170, R171: an order taken with fewer than 8 answers outstanding is answered: its kind plus 40 hex, its tag, at
the tail of the answers outstanding. A body of the wrong length, and a kind that names no order, are answered
REFUSED_FORMAT, and but for that answer nothing changes. -/
def Obligations.OrdersAreAnswered : Prop :=
  (∀ (i : Instr) (kind tag : Byte) (s : State), orderFrame i = some (kind, tag) → s.takesOrders →
    ∃ t result data, exec i s = .next t ∧ Answered s t kind tag result data) ∧
  (∀ (i : Instr) (kind tag : Byte) (s : State), orderFrame i = some (kind, tag) → s.takesOrders →
    (wrongLength i = true ∨ i = .unassignedOrderKind kind tag) →
    ∃ t, exec i s = .next t ∧ Answered s t kind tag .refusedFormat .none ∧ OnlyAnswered s t)

/-- R174: a refused order changes nothing in any block: no record, no message between blocks, and of the Link Unit
nothing but its answer and what any valid frame does (R170 step 1); its answer is the result code alone. -/
def Obligations.RefusedOrdersChangeNothing : Prop :=
  ∀ (i : Instr) (kind tag : Byte) (s t : State) (result : Result) (data : AnswerData),
    orderFrame i = some (kind, tag) → s.takesOrders → exec i s = .next t → Answered s t kind tag result data →
    result.done = false → OnlyAnswered s t ∧ data = .none

/-- R169, R170: with 8 answers outstanding a frame is set aside without an answer, with the receive error OVERRUN; a
frame that is no order is set aside with the error KIND. A frame abandoned or discarded records its reason, leaves the
receiver hunting and does not count for the silence monitor. LINK_ERROR is set each time; no other block is reached.
That KIND and OVERRUN are recorded between an accepted RESTART and its reset too is the model's choice (log entry 10).
-/
def Obligations.FailedFramesAreSetAside : Prop :=
  (∀ (i : Instr) (s : State), s.power = .running →
    ((i = .overrun ∨ (orderFrame i).isSome = true) → 8 ≤ s.link.outstanding →
      ∃ t, exec i s = .next t ∧ t.link.answersOut = s.link.answersOut ∧ t.link.lastError = .overrun ∧
        t.link.flag (.ofModule .linkError) = true ∧ SameButLink s t) ∧
    (∀ kind tag, i = .notAnOrder kind tag →
      ∃ t, exec i s = .next t ∧ t.link.answersOut = s.link.answersOut ∧ t.link.lastError = .kind ∧
        t.link.flag (.ofModule .linkError) = true ∧ SameButLink s t)) ∧
  (∀ (s : State) (i : Instr) (reason : ReceiveError), s.power = .running →
    ((i = .frameAbandoned .length ∧ reason = .length) ∨ (i = .frameAbandoned .line ∧ reason = .line) ∨
      (i = .frameGap ∧ reason = .gap) ∨ (i = .frameCheckFailed ∧ reason = .check)) →
    ∃ t, exec i s = .next t ∧ t.link.lastError = reason ∧ t.link.flag (.ofModule .linkError) = true ∧
      t.link.receiver = .hunting ∧ t.link.answersOut = s.link.answersOut ∧ t.link.silence = s.link.silence ∧
      t.posts = s.posts ∧ SameButLink s t)

/-- R179, R180: the frame after the one just sent: an answer first, then an urgent notice, then a routine notice; a
notice takes the sequence and its queue's lost mark. -/
def Obligations.TransmitterChoosesInOrder : Prop :=
  ∀ s : State, s.power = .running → s.link.restartPending = false →
    ∃ t, exec .frameSent s = .next t ∧ SameButLink s t ∧ t.posts = s.posts ∧
      (∀ a rest, s.link.answers = a :: rest → t.link.sending = some (.answer a) ∧ t.link.answers = rest ∧
        t.link.urgent = s.link.urgent ∧ t.link.routine = s.link.routine ∧ t.link.sequence = s.link.sequence) ∧
      (∀ e rest, s.link.answers = [] → s.link.urgent = e :: rest →
        t.link.sending = some (.notice s.link.sequence s.link.urgentLost e) ∧ t.link.urgent = rest ∧
        t.link.urgentLost = false ∧ t.link.routine = s.link.routine ∧ t.link.sequence = s.link.sequence + 1) ∧
      (∀ e rest, s.link.answers = [] → s.link.urgent = [] → s.link.routine = e :: rest →
        t.link.sending = some (.notice s.link.sequence s.link.routineLost e) ∧ t.link.routine = rest ∧
        t.link.routineLost = false ∧ t.link.sequence = s.link.sequence + 1) ∧
      (s.link.answers = [] → s.link.urgent = [] → s.link.routine = [] → t.link.sending = none)

/-- R176, R178, R179: what posting an event does to the flags and the queues, by the class of its kind: it sets the
flags of the event, and NOTICE_LOST when the queue of its class is full, and no other; the rest of the Link Unit
stays. -/
def Obligations.PostingAnEvent : Prop :=
  ∀ (l : Link) (n : NoticeSettings) (e : Event),
    (∀ f, (l.post n e).flag f = true ↔
      l.flag f = true ∨ f ∈ e.flags ∨
        (f = .ofModule .noticeLost ∧ n.master = true ∧
          ((n.classes[e.kindNumber] = 2 ∧ 16 ≤ l.urgent.length) ∨
            (n.classes[e.kindNumber] = 1 ∧ 48 ≤ l.routine.length)))) ∧
    (l.post n e).receiver = l.receiver ∧ (l.post n e).lastError = l.lastError ∧ (l.post n e).answers = l.answers ∧
    (l.post n e).sending = l.sending ∧ (l.post n e).sequence = l.sequence ∧ (l.post n e).silence = l.silence ∧
    (l.post n e).restartPending = l.restartPending ∧
    (n.master = false ∨ n.classes[e.kindNumber] = 0 →
      (l.post n e).urgent = l.urgent ∧ (l.post n e).urgentLost = l.urgentLost ∧
      (l.post n e).routine = l.routine ∧ (l.post n e).routineLost = l.routineLost) ∧
    (n.master = true → n.classes[e.kindNumber] = 2 →
      (l.post n e).routine = l.routine ∧ (l.post n e).routineLost = l.routineLost ∧
      (l.urgent.length < 16 → (l.post n e).urgent = l.urgent ++ [e] ∧ (l.post n e).urgentLost = l.urgentLost) ∧
      (16 ≤ l.urgent.length → (l.post n e).urgent = l.urgent ∧ (l.post n e).urgentLost = true)) ∧
    (n.master = true → n.classes[e.kindNumber] = 1 →
      (l.post n e).urgent = l.urgent ∧ (l.post n e).urgentLost = l.urgentLost ∧
      (l.routine.length < 48 → (l.post n e).routine = l.routine ++ [e] ∧ (l.post n e).routineLost = l.routineLost) ∧
      (48 ≤ l.routine.length → (l.post n e).routine = l.routine ∧ (l.post n e).routineLost = true))

/-- R14, R35, R65, R152, R165, R175: PRESENCE reports the Link Unit, its own answer not counted, and clears the last
receive error; each query is answered OK with the records as they stand. Nothing but the Link Unit changes. -/
def Obligations.QueriesAnswerTheRecords : Prop :=
  (∀ (s : State) (tag : Byte), s.takesOrders →
    ∃ t, exec (.presence tag (.fields ())) s = .next t ∧
      Answered s t 0x01 tag .ok (.presence
        { fieldTime := s.fieldTime, lastError := s.link.lastError, outstanding := s.link.outstanding,
          urgent := s.link.urgent.length, urgentLost := s.link.urgentLost, routine := s.link.routine.length,
          routineLost := s.link.routineLost, silence := s.validFrame.link.silence,
          master := s.settings.notices.master }) ∧
      t.link.lastError = .none ∧ SameButLink s t) ∧
  (∀ (s : State) (tag : Byte), s.takesOrders →
    (∀ (c : Fin 6) (start : Byte), start.toNat ≤ 15 →
      (∃ t, exec (.queryCarriage tag (.fields ⟨carriageByte c, 0, start⟩)) s = .next t ∧
        Answered s t 0x20 tag .ok (.carriageLive (s.cfg c) (s.car c)) ∧ SameButLink s t) ∧
      (∃ t, exec (.queryCarriage tag (.fields ⟨carriageByte c, 1, start⟩)) s = .next t ∧
        Answered s t 0x20 tag .ok (.carriageConfig (s.cfg c) ((allEntries.filter fun i =>
            decide (start.toNat ≤ i.val) && (decide (s.settings.interlocks[i].carriageA = c) ||
              decide (s.settings.interlocks[i].carriageB = c))).map fun i => (i, s.settings.interlocks[i]))) ∧
        SameButLink s t)) ∧
    (∀ n : Fin 64, ∃ t, exec (.queryStation tag (.fields (stationByte n))) s = .next t ∧
      Answered s t 0x21 tag .ok (.station (s.stCfg n) (s.st n)) ∧ SameButLink s t) ∧
    (∀ r : RingId, ∃ t, exec (.queryRing tag (.fields (ringByte r))) s = .next t ∧
      Answered s t 0x22 tag .ok (.ring (s.ringCfg r) (s.ring r)) ∧ SameButLink s t) ∧
    (∃ t, exec (.queryWeather tag (.fields 0xFF)) s = .next t ∧
      Answered s t 0x23 tag .ok (.site ⟨s.weather, s.settings.site, s.settings.responses⟩) ∧ SameButLink s t) ∧
    (∀ w : Fin 4, ∃ t, exec (.queryWeather tag (.fields (BitVec.ofNat 8 w.val))) s = .next t ∧
      Answered s t 0x23 tag .ok
        (.window (if s.settings.site.enabled[w] then s.weather.anemometers[w].window else [])) ∧ SameButLink s t) ∧
    (∃ t, exec (.queryPower tag (.fields ())) s = .next t ∧
      Answered s t 0x24 tag .ok
        (.power ⟨s.settings.budget, s.arbiter, Vector.ofFn fun c => (s.car c).state⟩) ∧ SameButLink s t))

/-- R177: READ_FLAGS copies every flag, then clears each flag the mask names; bits 94 and 95 are ignored; the mask's
12 bytes are laid out as the flags are. -/
def Obligations.ReadFlagsCopiesAndClears : Prop :=
  (∀ (s : State) (tag : Byte) (mask : BitVec 96), s.takesOrders →
    ∃ t, exec (.readFlags tag (.fields mask)) s = .next t ∧ Answered s t 0x02 tag .ok (.flags s.link.flags) ∧
      (∀ i, i < 94 → t.link.flags.getLsbD i = (s.link.flags.getLsbD i && !mask.getLsbD i)) ∧ SameButLink s t) ∧
  (∀ (b : List Byte) (i : Nat), i < 96 → (readMask b).getLsbD i = (byteAt b (i / 8)).getLsbD (i % 8))

/-- R178, R181: CONFIG_NOTICES replaces the notice settings by those its body spells in range; a silence limit of 0
disarms the monitor. A valid frame starts the monitor for a limit other than 0 and restarts one that runs, and after
an expiry it posts the clearing of LINK to every engine. While it runs the silence monitor expires: EXPIRED,
LINK_SILENT, and the hold cause LINK to every engine. That these posts are made from C0 up is the model's choice (log
entry 39). -/
def Obligations.NoticeSettingsAndSilence : Prop :=
  (∀ (b : NoticesBody) (n : NoticeSettings), noticeSettingsOf b = some n ↔
    b.master.toNat ≤ 1 ∧ (∀ i : Fin 16, b.classes[i].toNat ≤ 2) ∧
    (b.silence = 0 ∨ (100 ≤ b.silence.toNat ∧ b.silence.toNat ≤ 10000)) ∧
    n.master = decide (b.master = 1) ∧ (∀ i : Fin 16, n.classes[i].val = b.classes[i].toNat) ∧
    n.silence = b.silence.toNat) ∧
  (∀ s : State,
    s.validFrame.link = { s.link with receiver := .hunting, silence := s.validFrame.link.silence } ∧
    s.validFrame.link.silence =
      (if s.link.silence = .disarmed ∧ s.settings.notices.silence = 0 then Silence.disarmed
        else .running (s.settings.notices.silence * 1000)) ∧
    s.validFrame.posts = s.posts ++
      (if s.link.silence = .expired then [.cleared 0 .link, .cleared 1 .link, .cleared 2 .link, .cleared 3 .link,
        .cleared 4 .link, .cleared 5 .link] else [])) ∧
  (∀ (s : State) (tag : Byte) (b : NoticesBody) (n : NoticeSettings), s.takesOrders → s.store.write = none →
    noticeSettingsOf b = some n →
    ∃ t, exec (.configNotices tag (.fields b)) s = .next t ∧ Answered s t 0x0E tag .ok .none ∧
      t.settings = { s.settings with notices := n } ∧ (n.silence = 0 → t.link.silence = .disarmed) ∧
      t.carriages = s.carriages ∧ t.stations = s.stations ∧ t.arbiter = s.arbiter ∧ t.ringA = s.ringA ∧
      t.ringB = s.ringB ∧ t.weather = s.weather ∧ t.store = s.store ∧ t.lines = s.lines) ∧
  (∀ (s : State) (left : Nat), s.power = .running → s.link.silence = .running left →
    ∃ t, exec .silenceTimerExpiry s = .next t ∧ t.link.silence = .expired ∧
      t.link.flag (.ofModule .linkSilent) = true ∧
      t.posts = s.posts ++ [.hold 0 .link, .hold 1 .link, .hold 2 .link, .hold 3 .link, .hold 4 .link, .hold 5 .link] ∧
      SameButLink s t)

/-- R167 to R173: a frame as the line carries it is read back as its kind, tag and body, and a receiver that hunts
makes one command of it; its check is the CRC-16, which over the digits 1 to 9 is 29B1 hex. The body of every order,
coded field by field as its rule lists them, is read back as that order; a body of another length, a kind that names
no order and a kind that is none are named so. A character is a start bit, eight data bits, the least significant
first, and a stop bit; a missing stop bit is a line error, and an idle line of more than 20 ms a gap (the levels, and
from where a gap is measured, are the model's choice, log entry 50). What the transmitter puts on the line is read back
as its characters. A whole frame that reaches a receiver that hunts is taken as its order at once; a line error or a gap
abandons a frame begun, and while none is begun changes nothing. -/
def Obligations.FramesAreReadBack : Prop :=
  (∀ (kind tag : Byte) (body : List Byte), body.length ≤ 198 →
    (frameBytes kind tag body).length = body.length + 6 ∧
    frameCommand ((frameBytes kind tag body).drop 1) = frameOrder kind tag body ∧
    commandsOf .hunting ((frameBytes kind tag body).map .char) = [frameOrder kind tag body]) ∧
  (∀ (i : Instr) (kind tag : Byte) (body : List Byte), orderFrame i = some (kind, tag) → orderBody i = some body →
    i.wellFormed = true → frameOrder kind tag body = i) ∧
  (∀ (kind tag : Byte) (body : List Byte), kind.toNat ∈ assignedKinds →
    orderFrame (frameOrder kind tag body) = some (kind, tag) ∧
    (kind.toNat ≠ 0x0A → (wrongLength (frameOrder kind tag body) = false ↔ body.length ∈ bodyLengths kind.toNat)) ∧
    (kind.toNat = 0x0A → (wrongLength (frameOrder kind tag body) = false ↔
      3 ≤ body.length ∧ body.length = 3 + 7 * (byteAt body 2).toNat))) ∧
  (∀ (kind tag : Byte) (body : List Byte),
    ((kind = 0 ∨ 0x40 ≤ kind.toNat) → frameOrder kind tag body = .notAnOrder kind tag) ∧
    (kind ≠ 0 → kind.toNat < 0x40 → kind.toNat ∉ assignedKinds →
      frameOrder kind tag body = .unassignedOrderKind kind tag)) ∧
  crc16 [0x31, 0x32, 0x33, 0x34, 0x35, 0x36, 0x37, 0x38, 0x39] = 0x29B1 ∧
  (∀ (limit idle : Nat) (b : Byte) (rest : List Bool),
    charLevels b = [false] ++ ((List.range 8).map fun i => b.getLsbD i) ++ [true] ∧
    lineEvents limit idle (charLevels b ++ rest) = .char b :: lineEvents limit 0 rest ∧
    lineEvents limit idle ([false] ++ ((List.range 8).map fun i => b.getLsbD i) ++ [false] ++ rest) =
      .error :: lineEvents limit 0 rest) ∧
  (∀ (speed : Baud) (n : Nat) (rest : List Bool),
    gapLimit speed * 1000 = 20 * (match speed with | .b57600 => 57600 | .b115200 => 115200 | .b230400 => 230400) ∧
    lineEvents (gapLimit speed) 0 (List.replicate n true ++ rest) =
      (if gapLimit speed < n then [.gap] else []) ++ lineEvents (gapLimit speed) n rest) ∧
  (∀ (s : State) (limit idle : Nat), lineEvents limit idle s.lineLevels = s.lineOut.map .char) ∧
  (∀ (s : State) (kind tag : Byte) (body : List Byte), s.power = .running → s.link.receiver = .hunting →
    body.length ≤ 198 →
    s.hearAll ((frameBytes kind tag body).map .char) = exec (frameOrder kind tag body) s) ∧
  (∀ (s : State) (chars : List Byte), s.power = .running → s.link.receiver = .taking chars →
    s.hear .error = exec (.frameAbandoned .line) (s.withReceiver .hunting) ∧
    s.hear .gap = exec .frameGap (s.withReceiver .hunting)) ∧
  (∀ s : State, s.power = .running → s.link.receiver = .hunting → s.hear .error = .next s ∧ s.hear .gap = .next s)

/-! ## The settings store -/

/-- R183, R184: an accepted SAVE copies the settings with the next generation number and the check that makes the
image valid, and writes the slot that is not current (log entry 16). The write ends: on a good read-back its slot
becomes current, otherwise the slot and generation before it are kept; the busy period ends. -/
def Obligations.SaveAndItsEnd : Prop :=
  (∀ (s : State) (tag : Byte), s.takesOrders → s.store.write = none →
    (∀ c, (s.car c).state = .parked ∨ (s.car c).state = .held ∨ (s.car c).state.isTripped = true) →
    s.store.generation ≠ 4294967295 →
    ∃ t, exec (.save tag (.fields ())) s = .next t ∧ Answered s t 0x03 tag .ok .none ∧
      (∃ x, t.store.write = some x ∧ x.generation = s.store.generation + 1 ∧ x.settings = s.settings ∧
        x.valid = true) ∧ t.store.generation = s.store.generation ∧
      t.store.current = s.store.current ∧ (s.store.current = .slot0 → t.store.slot0 = s.store.slot0) ∧
      (s.store.current = .slot1 → t.store.slot1 = s.store.slot1) ∧ t.settings = s.settings ∧
      t.carriages = s.carriages ∧ t.stations = s.stations ∧ t.arbiter = s.arbiter ∧ t.weather = s.weather) ∧
  (∀ (s : State) (image : Image), s.power = .running → s.store.write = some image →
    (∃ t, exec (.storeDone true) s = .next t ∧ t.store.write = none ∧ t.store.generation = image.generation ∧
      (s.store.current = .slot0 → t.store.current = .slot1 ∧ t.store.slot1 = some image ∧
        t.store.slot0 = s.store.slot0) ∧
      (s.store.current = .slot1 → t.store.current = .slot0 ∧ t.store.slot0 = some image ∧
        t.store.slot1 = s.store.slot1) ∧
      t.settings = s.settings ∧ t.carriages = s.carriages ∧ t.stations = s.stations ∧ t.posts = s.posts) ∧
    (∃ t, exec (.storeDone false) s = .next t ∧ t.store = { s.store with write := none } ∧ t.settings = s.settings ∧
      t.carriages = s.carriages ∧ t.stations = s.stations ∧ t.posts = s.posts))

/-! ## The discrete lines -/

/-- R110, R111, R164, R186, R187: ESTOP_ON trips with the cause ESTOP every carriage in RELEASING, MOVING, BLOCKED,
STOPPING or AWAIT_POWER, leaves the others as they are, sets its flag and turns READY off. At ESTOP_OFF no carriage
changes state, and READY comes on unless the reset of a RESTART is due. The rain state follows its line, with its
flag, and touches no other block. -/
def Obligations.EstopAndRainLines : Prop :=
  (∀ s : State, s.power = .running → s.lines.estop = false →
    ∃ t, exec .estopOn s = .next t ∧ t.lines = { s.lines with estop := true } ∧ t.ready = false ∧
      t.link.flag (.ofModule .estopOn) = true ∧
      (∀ c, ((s.car c).state.inMotion = true ∨ (s.car c).state = .awaitPower) →
        (t.car c).state = .tripped false ∧ (t.car c).tripCause = some .estop ∧ (t.car c).order = none ∧
        (t.car c).vCmd = 0 ∧ (t.car c).setTimer = some ((s.cfg c).setTimeout * 1000) ∧
        t.link.flag (.ofCarriage c .tripped) = true) ∧
      (∀ c, (s.car c).state.inMotion = false → (s.car c).state ≠ .awaitPower → t.car c = s.car c) ∧
      t.settings = s.settings ∧ t.stations = s.stations ∧ t.ringA = s.ringA ∧ t.ringB = s.ringB ∧
      t.weather = s.weather ∧ t.store = s.store) ∧
  (∀ s : State, s.power = .running → s.lines.estop = true →
    ∃ t, exec .estopOff s = .next t ∧ t.lines = { s.lines with estop := false } ∧ t.ready = !s.link.restartDue ∧
      t.link.flag (.ofModule .estopOff) = true ∧ t.carriages = s.carriages ∧ t.arbiter = s.arbiter ∧
      t.stations = s.stations ∧ t.settings = s.settings ∧ t.posts = s.posts) ∧
  (∀ (s : State) (wet : Bool) (i : Instr), s.power = .running → s.lines.rain = !wet →
    i = (if wet then Instr.rainOn else .rainOff) →
    ∃ t, exec i s = .next t ∧ t.lines = { s.lines with rain := wet } ∧ t.weather = { s.weather with wet := wet } ∧
      t.link.flag (.ofModule (if wet then .rainOn else .rainOff)) = true ∧ t.carriages = s.carriages ∧
      t.settings = s.settings ∧ t.posts = s.posts ∧ t.stations = s.stations ∧ t.ringA = s.ringA ∧
      t.ringB = s.ringB ∧ t.arbiter = s.arbiter ∧ t.store = s.store)

/-! ## Configuration -/

/-- R8, R9, R11, R12: the record a CONFIG_CARRIAGE spells has each field of its body in range, and it is accepted when
the fields agree. An accepted CONFIG_CARRIAGE replaces the record of a PARKED carriage without DRIVING stations; a
changed rail count takes the means of the rails removed or added, a raised one makes P and S absent, one lowered to 1
leaves P at its rail's mean and S at 0; that one lowered to 2 or more leaves P and S is the model's choice (log entry
40). No other carriage's record changes. A raised creep speed takes its LOADING and READY stations rated below it to
FAULT(IDENTITY); a changed max speed or trim limit takes the other READY stations to LOADING with the new parameter
set, and gives the set to the LOADING ones (log entries 31 and 32: the creep check comes first, and a station whose
set keeps its value is left). -/
def Obligations.ConfigCarriageReplacesTheRecord : Prop :=
  (∀ (b : CarriageBody) (k : CarriageConfig), carriageConfigOf b = some k ↔
    b.enabled.toNat ≤ 1 ∧ b.kind.toNat ≤ 1 ∧ b.ring.toNat ≤ 1 ∧ (1 ≤ b.railCount.toNat ∧ b.railCount.toNat ≤ 4) ∧
    b.travelMin.toNat ≤ 250000 ∧ b.travelMax.toNat ≤ 250000 ∧ (1 ≤ b.maxSpeed.toNat ∧ b.maxSpeed.toNat ≤ 600) ∧
    (1 ≤ b.creepSpeed.toNat ∧ b.creepSpeed.toNat ≤ 50) ∧ (1 ≤ b.acceleration.toNat ∧ b.acceleration.toNat ≤ 100) ∧
    (1 ≤ b.deceleration.toNat ∧ b.deceleration.toNat ≤ 100) ∧ b.trimGain.toNat ≤ 2000 ∧ b.trimLimit.toNat ≤ 100 ∧
    (1 ≤ b.skewWarn.toNat ∧ b.skewWarn.toNat ≤ 500) ∧ (1 ≤ b.skewTrip.toNat ∧ b.skewTrip.toNat ≤ 1000) ∧
    (1 ≤ b.deviationLimit.toNat ∧ b.deviationLimit.toNat ≤ 500) ∧
    (1 ≤ b.slipLimit.toNat ∧ b.slipLimit.toNat ≤ 2000) ∧
    (1 ≤ b.arrivalTolerance.toNat ∧ b.arrivalTolerance.toNat ≤ 100) ∧
    (1 ≤ b.standstillBand.toNat ∧ b.standstillBand.toNat ≤ 20) ∧ b.overtravelMargin.toNat ≤ 5000 ∧
    b.reversalDwell.toNat ≤ 30000 ∧ (100 ≤ b.releaseTimeout.toNat ∧ b.releaseTimeout.toNat ≤ 10000) ∧
    (100 ≤ b.setTimeout.toNat ∧ b.setTimeout.toNat ≤ 10000) ∧ b.blindTolerance.toNat ≤ 5 ∧
    (1 ≤ b.minStations.toNat ∧ b.minStations.toNat ≤ 6) ∧ b.blockTimeout.toNat ≤ 3600 ∧
    (1 ≤ b.grantTimeout.toNat ∧ b.grantTimeout.toNat ≤ 600) ∧ b.priority.toNat ≤ 3 ∧ b.resumeWind.toNat ≤ 1 ∧
    b.resumeLoss.toNat ≤ 1 ∧
    k = { enabled := decide (b.enabled = 1), kind := if b.kind = 0 then CarriageKind.leaf else .tray,
          ring := if b.ring = 0 then RingId.a else .b, railCount := b.railCount.toNat, travelMin := b.travelMin.toNat,
          travelMax := b.travelMax.toNat, refuge := b.refuge.toNat, maxSpeed := b.maxSpeed.toNat,
          creepSpeed := b.creepSpeed.toNat, acceleration := b.acceleration.toNat,
          deceleration := b.deceleration.toNat, trimGain := b.trimGain.toNat, trimLimit := b.trimLimit.toNat,
          skewWarn := b.skewWarn.toNat, skewTrip := b.skewTrip.toNat, deviationLimit := b.deviationLimit.toNat,
          slipLimit := b.slipLimit.toNat, arrivalTolerance := b.arrivalTolerance.toNat,
          standstillBand := b.standstillBand.toNat, overtravelMargin := b.overtravelMargin.toNat,
          reversalDwell := b.reversalDwell.toNat, releaseTimeout := b.releaseTimeout.toNat,
          setTimeout := b.setTimeout.toNat, blindTolerance := b.blindTolerance.toNat,
          minStations := b.minStations.toNat, blockTimeout := b.blockTimeout.toNat,
          grantTimeout := b.grantTimeout.toNat, priority := b.priority.toNat,
          resumeWind := decide (b.resumeWind = 1), resumeLoss := decide (b.resumeLoss = 1) }) ∧
  (∀ k : CarriageConfig, k.agrees = true ↔
    k.travelMin < k.travelMax ∧ k.travelMin ≤ k.refuge ∧ k.refuge ≤ k.travelMax ∧ k.skewWarn < k.skewTrip ∧
    k.creepSpeed ≤ k.maxSpeed) ∧
  (∀ (s : State) (tag : Byte) (c : Fin 6) (b : CarriageBody) (k : CarriageConfig), s.takesOrders →
    s.store.write = none → b.carriage = carriageByte c → (s.car c).state = .parked → s.anyDriving c = false →
    carriageConfigOf b = some k → k.agrees = true → s.conflictsWithStations c k = false →
    ∃ t, exec (.configCarriage tag (.fields b)) s = .next t ∧ Answered s t 0x08 tag .ok .none ∧
      t.settings = { s.settings with carriages := s.settings.carriages.set c k } ∧ (t.car c).state = .parked ∧
      ((s.cfg c).railCount < k.railCount → (t.car c).position = none ∧ (t.car c).skew = none) ∧
      (k.railCount = 1 → 1 < (s.cfg c).railCount →
        (t.car c).position = (if (s.car c).position = none then none else (s.car c).rails[0].mean) ∧
        (t.car c).skew = (if (t.car c).position = none then none else some 0)) ∧
      ((k.railCount = (s.cfg c).railCount ∨ (1 < k.railCount ∧ k.railCount < (s.cfg c).railCount)) →
        (t.car c).position = (s.car c).position ∧ (t.car c).skew = (s.car c).skew) ∧
      (k.railCount ≠ (s.cfg c).railCount → (t.car c).skewWarnArmed = true ∧
        ∀ q : Fin 4, min (s.cfg c).railCount k.railCount ≤ q.val → (t.car c).rails[q].mean = none ∧
          (t.car c).rails[q].contributors = 0 ∧ (t.car c).rails[q].blind = 0) ∧
      (∀ n, s.isStationOf c n = false → (t.st n).state = (s.st n).state ∧ (t.st n).params = (s.st n).params) ∧
      (∀ (n : Fin 64) (rated : Nat) (P : ParamSet) (refused reloaded : Prop), s.isStationOf c n = true →
        rated = ((s.st n).identity.map Identity.ratedSpeed).getD 0 →
        P = ⟨min (k.maxSpeed + k.trimLimit) rated, (s.ringCfg k.ring).lossLimit * (s.ringCfg k.ring).period,
          (s.ringCfg k.ring).sampleLead⟩ →
        refused = (((s.st n).state = .loading ∨ (s.st n).state = .ready) ∧ (s.cfg c).creepSpeed < k.creepSpeed ∧
          rated < k.creepSpeed) →
        reloaded = (((s.st n).state = .loading ∨ (s.st n).state = .ready) ∧ ¬ refused ∧
          ((s.cfg c).maxSpeed ≠ k.maxSpeed ∨ (s.cfg c).trimLimit ≠ k.trimLimit) ∧ (s.st n).params ≠ some P) →
        (refused → (t.st n).state = .fault .identity ∧ t.link.flag (.ofCarriage c .stationFault) = true) ∧
        (reloaded → (t.st n).state = .loading ∧ (t.st n).params = some P ∧ (t.st n).echoed = false ∧
          ((∃ q ∈ (t.ring k.ring).queue, q.station = n ∧ q.kind = .load ∧ q.data = some P) ∨
            (t.st n).pendingRequest = some ⟨.load, some P⟩)) ∧
        (¬ refused → ¬ reloaded → (t.st n).state = (s.st n).state ∧ (t.st n).params = (s.st n).params)) ∧
      OtherCarriages s t c ∧ t.arbiter = s.arbiter ∧ t.weather = s.weather ∧ t.store = s.store)

/-- R16, R17, R18: the configuration a CONFIG_STATION spells has each field of its body in range. An accepted
CONFIG_STATION replaces the configuration and moves the state as the table of R18 states. -/
def Obligations.ConfigStationMovesTheState : Prop :=
  (∀ (b : StationBody) (k : StationConfig), stationConfigOf b = some k ↔
    b.enabled.toNat ≤ 1 ∧ -50000 ≤ b.mount.toInt ∧ b.mount.toInt ≤ 50000 ∧ k.enabled = decide (b.enabled = 1) ∧
    k.carriage.val = b.carriage.toNat ∧ k.rail.val = b.rail.toNat ∧ k.node.val = b.node.toNat ∧
    k.mount = b.mount.toInt) ∧
  (∀ (s : State) (tag : Byte) (n : Fin 64) (b : StationBody) (k : StationConfig), s.takesOrders →
    s.store.write = none → b.station = stationByte n → stationConfigOf b = some k → s.concernedMoving n k = false →
    s.stationConflicts n k = false →
    ∃ t, exec (.configStation tag (.fields b)) s = .next t ∧ Answered s t 0x09 tag .ok .none ∧
      t.settings = { s.settings with stations := s.settings.stations.set n k } ∧
      ((s.stCfg n).enabled = false → k.enabled = true → (t.st n).state = .offline ∧ (t.st n).identity = none) ∧
      ((s.stCfg n).enabled = false → k.enabled = false → (t.st n).state = (s.st n).state) ∧
      ((s.stCfg n).enabled = true → k.enabled = false → (t.st n).state = .unused ∧ (t.st n).identity = none) ∧
      ((s.stCfg n).enabled = true → k.enabled = true → (s.st n).state = .retired → t.st n = s.st n) ∧
      ((s.stCfg n).enabled = true → k.enabled = true → (s.st n).state ≠ .retired →
        ((s.stCfg n).carriage ≠ k.carriage ∨ (s.stCfg n).rail ≠ k.rail ∨ (s.stCfg n).node ≠ k.node) →
        (t.st n).state = .offline ∧ (t.st n).reported = none ∧ (t.st n).misses = 0) ∧
      ((s.stCfg n).enabled = true → k.enabled = true → (s.stCfg n).carriage = k.carriage →
        (s.stCfg n).rail = k.rail → (s.stCfg n).node = k.node → (t.st n).state = (s.st n).state) ∧
      t.carriages = s.carriages ∧ t.arbiter = s.arbiter ∧ t.weather = s.weather ∧ t.store = s.store)

/-- R68, R131, R132, R151: the entries a CONFIG_PLATES and the entry a CONFIG_INTERLOCK spells, field by field. An
accepted CONFIG_PLATES writes its entries into consecutive indexes of the carriage's table and leaves the rest of it.
An accepted CONFIG_INTERLOCK replaces one entry of the table. A budget within 0 to 20,000 that covers the granted sum
and every waiting need replaces the budget; a raised one prompts a grant attempt, a lower or an unchanged one none. -/
def Obligations.ConfigPlatesInterlockAndPower : Prop :=
  (∀ (b : PlateBody) (e : Option Plate), plateEntryOf b = some e ↔
    (b.id = 0 ∧ e = none) ∨
    (b.id ≠ 0 ∧ -50000 ≤ b.position.toInt ∧ b.position.toInt ≤ 300000 ∧ 1 ≤ b.mask.toNat ∧ b.mask.toNat ≤ 15 ∧
      e = some ⟨b.id, b.position.toInt, b.mask.setWidth 4⟩)) ∧
  (∀ (bs : List PlateBody) (es : List (Option Plate)), plateEntriesOf bs = some es ↔
    bs.map plateEntryOf = es.map some) ∧
  (∀ (b : InterlockBody) (e : Interlock), interlockOf b = some e ↔
    b.enabled.toNat ≤ 1 ∧ b.directionA.toNat ≤ 1 ∧ b.directionB.toNat ≤ 1 ∧ -50000 ≤ b.limitA.toInt ∧
    b.limitA.toInt ≤ 300000 ∧ -50000 ≤ b.thresholdB.toInt ∧ b.thresholdB.toInt ≤ 300000 ∧
    e.enabled = decide (b.enabled = 1) ∧ e.carriageA.val = b.carriageA.toNat ∧
    e.directionA = (if b.directionA = 0 then Direction.outward else .inward) ∧ e.limitA = b.limitA.toInt ∧
    e.carriageB.val = b.carriageB.toNat ∧
    e.directionB = (if b.directionB = 0 then Direction.outward else .inward) ∧ e.thresholdB = b.thresholdB.toInt) ∧
  (∀ (s : State) (tag : Byte) (c : Fin 6) (b : PlatesBody) (es : List (Option Plate)), s.takesOrders →
    s.store.write = none → b.carriage = carriageByte c → (s.car c).state = .parked → 1 ≤ b.entries.length →
    b.entries.length ≤ 20 → b.start.toNat + b.entries.length ≤ 128 → plateEntriesOf b.entries = some es →
    repeats (plateIds (writePlates s.settings.plates[c] b.start.toNat es)) = false →
    ∃ t, exec (.configPlates tag (.fields b)) s = .next t ∧ Answered s t 0x0A tag .ok .none ∧
      (∀ j : Fin 128, t.settings.plates[c][j] =
        if b.start.toNat ≤ j.val then (es[j.val - b.start.toNat]?).getD s.settings.plates[c][j]
        else s.settings.plates[c][j]) ∧
      (∀ d : Fin 6, d ≠ c → t.settings.plates[d] = s.settings.plates[d]) ∧ t.carriages = s.carriages ∧
      t.arbiter = s.arbiter ∧ t.weather = s.weather ∧ t.store = s.store) ∧
  (∀ (s : State) (tag : Byte) (i : Fin 16) (b : InterlockBody) (e : Interlock), s.takesOrders → s.store.write = none →
    b.index = BitVec.ofNat 8 i.val → interlockOf b = some e → e.carriageA ≠ e.carriageB →
    s.entryMoving s.settings.interlocks[i] = false → s.entryMoving e = false →
    ∃ t, exec (.configInterlock tag (.fields b)) s = .next t ∧ Answered s t 0x0B tag .ok .none ∧
      t.settings = { s.settings with interlocks := s.settings.interlocks.set i e } ∧ t.carriages = s.carriages ∧
      t.stations = s.stations ∧ t.arbiter = s.arbiter ∧ t.weather = s.weather ∧ t.store = s.store) ∧
  (∀ (s : State) (tag : Byte) (b : Half), s.takesOrders → s.store.write = none → b.toNat ≤ 20000 →
    s.arbiter.grantedSum ≤ b.toNat → (∀ w ∈ s.arbiter.queue, w.need ≤ b.toNat) →
    ∃ t, exec (.configPower tag (.fields b)) s = .next t ∧ Answered s t 0x0D tag .ok .none ∧
      t.settings = { s.settings with budget := b.toNat } ∧
      t.posts = s.validFrame.posts ++ (if s.settings.budget < b.toNat then [.grantAttempt] else []) ∧
      t.carriages = s.carriages ∧ t.stations = s.stations ∧ t.arbiter = s.arbiter ∧ t.weather = s.weather)

/-- R154, R155: the site settings and the responses a CONFIG_WEATHER spells have each field in range. An accepted SITE
part replaces the site settings, and an anemometer turned off or on starts afresh; an accepted carriage part replaces
a PARKED carriage's responses. The site level does not change. -/
def Obligations.ConfigWeatherReplacesItsPart : Prop :=
  (∀ (b : SiteBody) (k : SiteSettings), siteSettingsOf b = some k ↔
    (∀ w : Fin 4, b.enabled[w].toNat ≤ 1 ∧ k.enabled[w] = decide (b.enabled[w] = 1) ∧ 1 ≤ b.gain[w].toNat ∧
      b.gain[w].toNat ≤ 4095 ∧ k.gain[w] = b.gain[w].toNat) ∧
    (∀ l : Fin 3, 1 ≤ b.gust[l].toNat ∧ b.gust[l].toNat ≤ 750 ∧ k.gust[l] = b.gust[l].toNat ∧
      1 ≤ b.mean[l].toNat ∧ b.mean[l].toNat ≤ 750 ∧ k.mean[l] = b.mean[l].toNat) ∧
    b.hysteresis.toNat ≤ 100 ∧ k.hysteresis = b.hysteresis.toNat ∧ 60 ≤ b.descentDwell.toNat ∧
    b.descentDwell.toNat ≤ 3600 ∧ k.descentDwell = b.descentDwell.toNat ∧ k.blindLevel.val = b.blindLevel.toNat ∧
    k.startLevel.val = b.startLevel.toNat) ∧
  (∀ k : SiteSettings, k.agrees = true ↔
    k.gust[0] < k.gust[1] ∧ k.gust[1] < k.gust[2] ∧ k.mean[0] < k.mean[1] ∧ k.mean[1] < k.mean[2] ∧
    k.hysteresis < k.gust[0] ∧ k.hysteresis < k.mean[0]) ∧
  (∀ (b : ResponseBody) (k : Responses), responsesOf b = some k ↔
    ∀ l : Fin 3, b.actions[l].toNat ≤ 3 ∧ 1 ≤ b.caps[l].toNat ∧ b.caps[l].toNat ≤ 100 ∧
      k[l] = ⟨if b.actions[l] = 0 then WindAction.none else if b.actions[l] = 1 then .cap
        else if b.actions[l] = 2 then .noStart else .hold, b.caps[l].toNat⟩) ∧
  (∀ (s : State) (tag : Byte) (b : SiteBody) (k : SiteSettings), s.takesOrders → s.store.write = none →
    b.selector = 0xFF → siteSettingsOf b = some k → k.agrees = true →
    ∃ t, exec (.configWeatherSite tag (.fields b)) s = .next t ∧ Answered s t 0x0C tag .ok .none ∧
      t.settings = { s.settings with site := k } ∧ t.weather.level = s.weather.level ∧
      t.weather.descentTimer = s.weather.descentTimer ∧
      (∀ w : Fin 4, t.weather.anemometers[w] =
        if s.settings.site.enabled[w] = k.enabled[w] then s.weather.anemometers[w] else {}) ∧
      t.carriages = s.carriages ∧ t.stations = s.stations ∧ t.arbiter = s.arbiter) ∧
  (∀ (s : State) (tag : Byte) (c : Fin 6) (b : ResponseBody) (k : Responses), s.takesOrders → s.store.write = none →
    b.selector = carriageByte c → responsesOf b = some k → responsesAgree k = true → (s.car c).state = .parked →
    ∃ t, exec (.configWeatherCarriage tag (.fields b)) s = .next t ∧ Answered s t 0x0C tag .ok .none ∧
      t.settings = { s.settings with responses := s.settings.responses.set c k } ∧ t.weather = s.weather ∧
      t.carriages = s.carriages ∧ t.stations = s.stations ∧ t.arbiter = s.arbiter)

/-- R9, R10, R17, R41, R42, R68, R132, R151, R155, R178, R184: the refusals of the configuration orders, of SAVE and
of the ring orders change nothing but their answer: REFUSED_BUSY while a SAVE is written; REFUSED_STATE where a
carriage concerned is not PARKED, a station of the carriage is DRIVING, the record conflicts with the stations
configured (R10) or the station with the installation (R17), a ring is not QUIET, or power is granted or awaited
beyond the budget, and for RING_QUIET where a carriage of the ring is neither PARKED nor TRIPPED, a SAVE or not;
REFUSED_RANGE for a number that names nothing, a field out of range, and fields that disagree. -/
def Obligations.ConfigurationIsRefused : Prop :=
  ∀ (s : State) (tag : Byte) (i : Instr) (kind : Byte) (result : Result), s.takesOrders →
    ((s.store.write.isSome = true ∧ result = .refusedBusy ∧
        ((∃ b : CarriageBody, i = .configCarriage tag (.fields b) ∧ kind = 0x08 ∧ b.carriage.toNat < 6) ∨
          (∃ b : StationBody, i = .configStation tag (.fields b) ∧ kind = 0x09 ∧ b.station.toNat < 64) ∨
          (∃ b : PlatesBody, i = .configPlates tag (.fields b) ∧ kind = 0x0A ∧ b.carriage.toNat < 6 ∧
            1 ≤ b.entries.length ∧ b.entries.length ≤ 20) ∨
          (∃ b : InterlockBody, i = .configInterlock tag (.fields b) ∧ kind = 0x0B ∧ b.index.toNat < 16) ∨
          (∃ b : SiteBody, i = .configWeatherSite tag (.fields b) ∧ kind = 0x0C ∧ b.selector = 0xFF) ∨
          (∃ b : ResponseBody, i = .configWeatherCarriage tag (.fields b) ∧ kind = 0x0C ∧ b.selector.toNat < 6) ∨
          (∃ b : Half, i = .configPower tag (.fields b) ∧ kind = 0x0D ∧ b.toNat ≤ 20000) ∨
          (∃ b : NoticesBody, i = .configNotices tag (.fields b) ∧ kind = 0x0E) ∨
          (∃ b : WakeBody, i = .ringWake tag (.fields b) ∧ kind = 0x1A ∧ b.ring.toNat ≤ 1) ∨
          (i = .save tag (.fields ()) ∧ kind = 0x03))) ∨
      (s.store.write = none ∧ result = .refusedState ∧
        ((∃ (b : CarriageBody) (c : Fin 6), i = .configCarriage tag (.fields b) ∧ kind = 0x08 ∧
            b.carriage = carriageByte c ∧ ((s.car c).state ≠ .parked ∨
              ∃ n, s.isStationOf c n = true ∧ (s.st n).state = .driving)) ∨
          (∃ (b : CarriageBody) (c : Fin 6) (k : CarriageConfig), i = .configCarriage tag (.fields b) ∧ kind = 0x08 ∧
            b.carriage = carriageByte c ∧ carriageConfigOf b = some k ∧ k.agrees = true ∧
            ∃ n, s.isStationOf c n = true ∧ (k.railCount ≤ (s.stCfg n).rail.val ∨ k.ring ≠ (s.cfg c).ring)) ∨
          (∃ (b : StationBody) (n : Fin 64) (k : StationConfig), i = .configStation tag (.fields b) ∧ kind = 0x09 ∧
            b.station = stationByte n ∧ stationConfigOf b = some k ∧ k.enabled = true ∧
            ((s.cfg k.carriage).railCount ≤ k.rail.val ∨
              (∃ m, m ≠ n ∧ s.onRing (s.cfg k.carriage).ring m = true ∧ (s.stCfg m).node = k.node) ∨
              (s.ringCfg (s.cfg k.carriage).ring).nodes ≤ k.node.val ∨
              24 ≤ (allStations.filter fun m => s.isStationOf k.carriage m && decide (m ≠ n)).length)) ∨
          (∃ (b : StationBody) (n : Fin 64) (k : StationConfig), i = .configStation tag (.fields b) ∧ kind = 0x09 ∧
            b.station = stationByte n ∧ stationConfigOf b = some k ∧
            (((s.stCfg n).enabled = true ∧ (s.car (s.stCfg n).carriage).state ≠ .parked) ∨
              (k.enabled = true ∧ (s.car k.carriage).state ≠ .parked))) ∨
          (∃ (b : PlatesBody) (c : Fin 6), i = .configPlates tag (.fields b) ∧ kind = 0x0A ∧
            b.carriage = carriageByte c ∧ 1 ≤ b.entries.length ∧ b.entries.length ≤ 20 ∧
            (s.car c).state ≠ .parked) ∨
          (∃ (b : InterlockBody) (j : Fin 16) (e x : Interlock), i = .configInterlock tag (.fields b) ∧ kind = 0x0B ∧
            b.index = BitVec.ofNat 8 j.val ∧ interlockOf b = some e ∧ e.carriageA ≠ e.carriageB ∧
            (x = e ∨ x = s.settings.interlocks[j]) ∧ x.enabled = true ∧
            ((s.car x.carriageA).state ≠ .parked ∨ (s.car x.carriageB).state ≠ .parked)) ∨
          (∃ (b : ResponseBody) (c : Fin 6) (k : Responses), i = .configWeatherCarriage tag (.fields b) ∧
            kind = 0x0C ∧ b.selector = carriageByte c ∧ responsesOf b = some k ∧ responsesAgree k = true ∧
            (s.car c).state ≠ .parked) ∨
          (∃ b : Half, i = .configPower tag (.fields b) ∧ kind = 0x0D ∧ b.toNat ≤ 20000 ∧
            (b.toNat < s.arbiter.grantedSum ∨ ∃ w ∈ s.arbiter.queue, b.toNat < w.need)) ∨
          (∃ (b : WakeBody) (r : RingId) (g : RingSettings), i = .ringWake tag (.fields b) ∧ kind = 0x1A ∧
            b.ring = ringByte r ∧ ringSettingsOf b = some g ∧ ((s.ring r).state ≠ .quiet ∨
              ∃ n, s.onRing r n = true ∧ g.nodes ≤ (s.stCfg n).node.val)) ∨
          (i = .save tag (.fields ()) ∧ kind = 0x03 ∧ ((∃ c, (s.car c).state = .awaitPower ∨
            (s.car c).state.inMotion = true) ∨ s.store.generation = 4294967295)))) ∨
      (result = .refusedState ∧ ∃ (r : RingId) (c : Fin 6), i = .ringQuiet tag (.fields (ringByte r)) ∧ kind = 0x19 ∧
        (s.ring r).state ≠ .quiet ∧ (s.cfg c).ring = r ∧ (s.car c).state ≠ .parked ∧
        (s.car c).state.isTripped = false) ∨
      (s.store.write = none ∧ result = .refusedRange ∧
        ((∃ (b : CarriageBody) (c : Fin 6), i = .configCarriage tag (.fields b) ∧ kind = 0x08 ∧
            b.carriage = carriageByte c ∧ (s.car c).state = .parked ∧
            (∀ n, s.isStationOf c n = true → (s.st n).state ≠ .driving) ∧
            ∀ k, carriageConfigOf b = some k → k.agrees = false) ∨
          (∃ (b : StationBody), i = .configStation tag (.fields b) ∧ kind = 0x09 ∧ b.station.toNat < 64 ∧
            stationConfigOf b = none) ∨
          (∃ (b : PlatesBody) (c : Fin 6), i = .configPlates tag (.fields b) ∧ kind = 0x0A ∧
            b.carriage = carriageByte c ∧ 1 ≤ b.entries.length ∧ b.entries.length ≤ 20 ∧ (s.car c).state = .parked ∧
            (127 < b.start.toNat ∨ 128 < b.start.toNat + b.entries.length ∨ plateEntriesOf b.entries = none ∨
              ∃ es, plateEntriesOf b.entries = some es ∧
                ¬ (plateIds (writePlates s.settings.plates[c] b.start.toNat es)).Nodup)) ∨
          (∃ (b : InterlockBody), i = .configInterlock tag (.fields b) ∧ kind = 0x0B ∧ b.index.toNat < 16 ∧
            (interlockOf b = none ∨ b.carriageA = b.carriageB)) ∨
          (∃ (b : SiteBody), i = .configWeatherSite tag (.fields b) ∧ kind = 0x0C ∧ b.selector = 0xFF ∧
            ∀ k, siteSettingsOf b = some k → k.agrees = false) ∨
          (∃ (b : ResponseBody), i = .configWeatherCarriage tag (.fields b) ∧ kind = 0x0C ∧ b.selector.toNat < 6 ∧
            ∀ k, responsesOf b = some k →
              k[1].action.severity < k[0].action.severity ∨ k[2].action.severity < k[1].action.severity) ∨
          (∃ (b : NoticesBody), i = .configNotices tag (.fields b) ∧ kind = 0x0E ∧ noticeSettingsOf b = none) ∨
          (∃ (b : WakeBody), i = .ringWake tag (.fields b) ∧ kind = 0x1A ∧ b.ring.toNat ≤ 1 ∧
            ringSettingsOf b = none))) ∨
      (result = .refusedRange ∧
        ((∃ b : Byte, i = .ringQuiet tag (.fields b) ∧ kind = 0x19 ∧ 2 ≤ b.toNat) ∨
          (∃ b : SiteBody, i = .configWeatherSite tag (.fields b) ∧ kind = 0x0C ∧ 6 ≤ b.selector.toNat ∧
            b.selector ≠ 0xFF) ∨
          (∃ b : ResponseBody, i = .configWeatherCarriage tag (.fields b) ∧ kind = 0x0C ∧ 6 ≤ b.selector.toNat ∧
            b.selector ≠ 0xFF) ∨
          (∃ b : CarriageBody, i = .configCarriage tag (.fields b) ∧ kind = 0x08 ∧ 6 ≤ b.carriage.toNat) ∨
          (∃ b : StationBody, i = .configStation tag (.fields b) ∧ kind = 0x09 ∧ 64 ≤ b.station.toNat) ∨
          (∃ b : PlatesBody, i = .configPlates tag (.fields b) ∧ kind = 0x0A ∧ 6 ≤ b.carriage.toNat ∧
            1 ≤ b.entries.length ∧ b.entries.length ≤ 20) ∨
          (∃ b : InterlockBody, i = .configInterlock tag (.fields b) ∧ kind = 0x0B ∧ 16 ≤ b.index.toNat) ∨
          (∃ b : Half, i = .configPower tag (.fields b) ∧ kind = 0x0D ∧ 20000 < b.toNat) ∨
          (∃ b : WakeBody, i = .ringWake tag (.fields b) ∧ kind = 0x1A ∧ 2 ≤ b.ring.toNat)))) →
    ∃ t, exec i s = .next t ∧ Answered s t kind tag result .none ∧ OnlyAnswered s t

/-! ## Orders of motion -/

/-- R90, R91, R93, R145: a MOVE or SEEK that passes its checks on a PARKED carriage, or on a HELD one without causes,
becomes its current order, clamped into the travel limits and the max speed; the carriage enters AWAIT_POWER, joins
the grant queue and gives up its resume record. A MOVE's effective target is formed from the record's P and is
published with that P (log entry 27); a SEEK has none. -/
def Obligations.MotionOrdersFromRest : Prop :=
  (∀ (s : State) (tag : Byte) (c : Fin 6) (b : MoveBody) (x : Int) (v : Nat), s.takesOrders →
    b.carriage = carriageByte c → x = clampInt (s.cfg c).travelMin (s.cfg c).travelMax b.target.toInt →
    v = min b.speedLimit.toNat (s.cfg c).maxSpeed → (s.cfg c).enabled = true → s.ringOut c = false →
    s.lines.estop = false → ((s.car c).state = .parked ∨ ((s.car c).state = .held ∧ (s.car c).holds = {})) →
    b.speedLimit.toNat ≠ 0 → s.railsUsable c (.move x) .ready = true → s.windAllows c (.move x) = true →
    s.need c ≤ s.settings.budget →
    ∃ t, exec (.move tag (.fields b)) s = .next t ∧
      Answered s t 0x10 tag (if x = b.target.toInt ∧ v = b.speedLimit.toNat then .ok else .okClamped) .none ∧
      (t.car c).state = .awaitPower ∧
      (t.car c).order = some ⟨tag, .move x, v, decide (x ≠ b.target.toInt ∨ v ≠ b.speedLimit.toNat)⟩ ∧
      (t.car c).resume = none ∧ (t.car c).reach = ⟨(t.car c).position, (t.car c).effectiveTarget⟩ ∧
      (t.car c).position = (s.car c).position ∧
      (s.active c = [] → (t.car c).effectiveTarget = some (s.clampTravel c x)) ∧
      (∀ p, (s.car c).position = some p →
        (t.car c).effectiveTarget = some (s.clampTravel c ((s.freeInterval c p).clamp x))) ∧
      t.arbiter = { s.arbiter with queue := insertWaiting (s.newcomer c) s.arbiter.queue,
                                   counter := s.arbiter.counter + 1 } ∧
      t.posts = s.validFrame.posts ++ [.grantAttempt] ∧ OtherCarriages s t c ∧ SamePlant s t) ∧
  (∀ (s : State) (tag : Byte) (c : Fin 6) (b : SeekBody) (d : Direction) (v : Nat), s.takesOrders →
    b.carriage = carriageByte c → b.direction = (if d = .outward then 0 else 1) → 1 ≤ b.distance.toNat →
    b.distance.toNat ≤ 20000 → v = min b.speedLimit.toNat (s.cfg c).maxSpeed → (s.cfg c).enabled = true →
    s.ringOut c = false → s.lines.estop = false →
    ((s.car c).state = .parked ∨ ((s.car c).state = .held ∧ (s.car c).holds = {})) → b.speedLimit.toNat ≠ 0 →
    s.railsUsable c (.seek d b.distance.toNat) .ready = true → s.windAllows c (.seek d b.distance.toNat) = true →
    s.need c ≤ s.settings.budget →
    ∃ t, exec (.seek tag (.fields b)) s = .next t ∧
      Answered s t 0x11 tag (if v = b.speedLimit.toNat then .ok else .okClamped) .none ∧
      (t.car c).state = .awaitPower ∧
      (t.car c).order = some ⟨tag, .seek d b.distance.toNat, v, decide (v ≠ b.speedLimit.toNat)⟩ ∧
      (t.car c).resume = none ∧ (t.car c).effectiveTarget = none ∧
      t.arbiter = { s.arbiter with queue := insertWaiting (s.newcomer c) s.arbiter.queue,
                                   counter := s.arbiter.counter + 1 } ∧
      t.posts = s.validFrame.posts ++ [.grantAttempt] ∧ OtherCarriages s t c ∧ SamePlant s t)

/-- R90, R91, R92, R144: the checks of a MOVE or SEEK whose fields have passed, in their order: the first that fails
decides the answer, and a refused order changes nothing but its answer; with none failing the answer is OK, or
OK_CLAMPED for a clamped order. What the check of the rails and the need are, spelled out. That a SEEK passes on a rail
whose stations are all of kind NONE after a wake too, as R92 says and R86 does not, is the model's choice (log entry
51). -/
def Obligations.MotionOrdersAreChecked : Prop :=
  (∀ (s : State) (c : Fin 6) (task : Task) (counted : StationState), s.railsUsable c task counted = true ↔
    ∀ (r : Fin 4) (L : List (Fin 64)), r.val < (s.cfg c).railCount →
      L = allStations.filter (fun n => s.isStationOf c n && decide ((s.stCfg n).rail = r) &&
        decide ((s.st n).state = counted)) →
      (s.car c).rails[r].split = false ∧
      (∀ x, task = .move x → (s.car c).rails[r].mean.isSome = true ∧ (s.car c).rails[r].blind = 0 ∧
        (s.cfg c).minStations ≤ (L.filter fun n => decide ((s.st n).reckoning.kind ≠ .none) &&
          decide ((s.st n).reckoning.exclusion = none)).length) ∧
      (∀ d k, task = .seek d k → (s.cfg c).minStations ≤ L.length ∧
        ((∃ n ∈ L, (s.st n).reckoning.kind ≠ .none) → (s.car c).rails[r].blind = 0))) ∧
  (∀ (s : State) (c : Fin 6), s.need c = ((allStations.filter fun n => s.isStationOf c n &&
    decide ((s.st n).state = .ready)).map fun n => ((s.st n).identity.map Identity.ratedPower).getD 0).sum) ∧
  (∀ (s : State) (i : Instr) (kind tag : Byte) (c : Fin 6) (task : Task) (limit : Nat) (clamped : Bool), s.takesOrders →
    ((∃ (b : MoveBody) (x : Int), i = .move tag (.fields b) ∧ kind = 0x10 ∧ b.carriage = carriageByte c ∧
        x = clampInt (s.cfg c).travelMin (s.cfg c).travelMax b.target.toInt ∧ task = .move x ∧
        limit = b.speedLimit.toNat ∧ clamped = decide (x ≠ b.target.toInt ∨ (s.cfg c).maxSpeed < limit)) ∨
      (∃ (b : SeekBody) (d : Direction), i = .seek tag (.fields b) ∧ kind = 0x11 ∧ b.carriage = carriageByte c ∧
        b.direction = (if d = .outward then 0 else 1) ∧ 1 ≤ b.distance.toNat ∧ b.distance.toNat ≤ 20000 ∧
        task = .seek d b.distance.toNat ∧ limit = b.speedLimit.toNat ∧
        clamped = decide ((s.cfg c).maxSpeed < limit))) →
    ∃ t result, exec i s = .next t ∧ Answered s t kind tag result .none ∧
      (result.done = false → OnlyAnswered s t) ∧
      result =
        if (s.cfg c).enabled = false ∨ (s.ring (s.cfg c).ring).state = .quiet ∨ (s.ring (s.cfg c).ring).state = .down
        then .refusedState
        else if s.lines.estop = true then .refusedEstop
        else if (s.car c).state.isTripped = true ∨ (s.car c).state = .stopping .hold .ramp ∨
            (s.car c).state = .stopping .hold .brake ∨ ((s.car c).state = .held ∧ (s.car c).holds ≠ {})
        then (if (s.car c).holds = { wind := true } then .refusedWind else .refusedState)
        else if limit = 0 then .refusedRange
        else if s.railsUsable c task (countedState (s.car c).state) = false then .refusedState
        else if (s.response c).action = .hold ∨
            ((s.response c).action = .noStart ∧ task ≠ .move (s.cfg c).refuge)
        then .refusedWind
        else if ((s.car c).state = .parked ∨ (s.car c).state = .held) ∧ s.settings.budget < s.need c
        then .refusedPower
        else if clamped = true then .okClamped
        else .ok)

/-- R93, R94, R133, R135, R140: a MOVE or SEEK accepted in AWAIT_POWER, RELEASING, MOVING or BLOCKED supersedes the
current order, whose MOVE_END is posted first; the carriage keeps its state, its commanded speed, its place in the
queue or its grant. A MOVE has its effective target formed from the record's P and published with that P (log entry
27), a SEEK has none; in BLOCKED the block timer starts afresh and a SEEK's active entries are formed at once, listed
by rising index, which is the model's choice (log entry 49). A MOVE or SEEK accepted in STOPPING(END) becomes the
current order with the grant kept and no order ended: in the ramp stage the carriage enters MOVING at the speed it has,
in the brake stage RELEASING from speed 0, its READY stations driving. -/
def Obligations.MoveSupersedesTheCurrentOrder : Prop :=
  (∀ (s : State) (i : Instr) (kind tag : Byte) (c : Fin 6) (task : Task) (limit : Nat) (clamped : Bool) (old : Order)
    (result : Result) (l : Link), s.takesOrders →
    ((∃ (b : MoveBody) (x : Int), i = .move tag (.fields b) ∧ kind = 0x10 ∧ b.carriage = carriageByte c ∧
        x = clampInt (s.cfg c).travelMin (s.cfg c).travelMax b.target.toInt ∧ task = .move x ∧
        limit = b.speedLimit.toNat ∧ clamped = decide (x ≠ b.target.toInt ∨ (s.cfg c).maxSpeed < limit)) ∨
      (∃ (b : SeekBody) (d : Direction), i = .seek tag (.fields b) ∧ kind = 0x11 ∧ b.carriage = carriageByte c ∧
        b.direction = (if d = .outward then 0 else 1) ∧ 1 ≤ b.distance.toNat ∧ b.distance.toNat ≤ 20000 ∧
        task = .seek d b.distance.toNat ∧ limit = b.speedLimit.toNat ∧
        clamped = decide ((s.cfg c).maxSpeed < limit))) →
    (s.cfg c).enabled = true → s.ringOut c = false → s.lines.estop = false → (s.car c).order = some old →
    limit ≠ 0 →
    (((s.car c).state = .awaitPower ∧ s.railsUsable c task .ready = true) ∨
      (((s.car c).state = .releasing ∨ (s.car c).state = .moving ∨ (s.car c).state = .blocked) ∧
        s.railsUsable c task .driving = true)) →
    s.windAllows c task = true → result = (if clamped = true then .okClamped else .ok) →
    l = s.validFrame.link.post s.settings.notices (.moveEnd c old.tag .superseded none (s.car c).position) →
    ∃ t, exec i s = .next t ∧ Answered s t kind tag result .none ∧
      t.link = ({ l with answers := l.answers ++ [(⟨kind + 0x40, tag, result, .none⟩ : Answer)] }).choose ∧
      t.link.flag (.ofCarriage c .ended) = true ∧
      (t.car c).order = some ⟨tag, task, min limit (s.cfg c).maxSpeed, clamped⟩ ∧
      (t.car c).state = (s.car c).state ∧ (t.car c).vCmd = (s.car c).vCmd ∧
      (t.car c).position = (s.car c).position ∧ t.arbiter = s.arbiter ∧
      (∀ x, task = .move x → (t.car c).reach = ⟨(s.car c).position, (t.car c).effectiveTarget⟩ ∧
        (s.active c = [] → (t.car c).effectiveTarget = some (s.clampTravel c x)) ∧
        ∀ p, (s.car c).position = some p →
          (t.car c).effectiveTarget = some (s.clampTravel c ((s.freeInterval c p).clamp x))) ∧
      (∀ d x, task = .seek d x → (t.car c).effectiveTarget = none ∧
        (t.car c).reach = (if (s.car c).effectiveTarget = none then (s.car c).reach
          else ⟨(s.car c).position, none⟩) ∧
        ((s.car c).state = .blocked → (t.car c).activeEntries = s.active c)) ∧
      (t.car c).blockTimer = (if (s.car c).state ≠ .blocked then (s.car c).blockTimer
        else if (s.cfg c).blockTimeout = 0 then none else some ((s.cfg c).blockTimeout * 1000000)) ∧
      OtherCarriages s t c ∧ SamePlant s t) ∧
  (∀ (s : State) (i : Instr) (kind tag : Byte) (c : Fin 6) (task : Task) (limit : Nat) (clamped : Bool) (stage : Stage),
    s.takesOrders →
    ((∃ (b : MoveBody) (x : Int), i = .move tag (.fields b) ∧ kind = 0x10 ∧ b.carriage = carriageByte c ∧
        x = clampInt (s.cfg c).travelMin (s.cfg c).travelMax b.target.toInt ∧ task = .move x ∧
        limit = b.speedLimit.toNat ∧ clamped = decide (x ≠ b.target.toInt ∨ (s.cfg c).maxSpeed < limit)) ∨
      (∃ (b : SeekBody) (d : Direction), i = .seek tag (.fields b) ∧ kind = 0x11 ∧ b.carriage = carriageByte c ∧
        b.direction = (if d = .outward then 0 else 1) ∧ 1 ≤ b.distance.toNat ∧ b.distance.toNat ≤ 20000 ∧
        task = .seek d b.distance.toNat ∧ limit = b.speedLimit.toNat ∧
        clamped = decide ((s.cfg c).maxSpeed < limit))) →
    (s.cfg c).enabled = true → s.ringOut c = false → s.lines.estop = false →
    (s.car c).state = .stopping .ending stage → limit ≠ 0 → s.railsUsable c task .driving = true →
    s.windAllows c task = true →
    ∃ t, exec i s = .next t ∧ Answered s t kind tag (if clamped = true then .okClamped else .ok) .none ∧
      (t.car c).order = some ⟨tag, task, min limit (s.cfg c).maxSpeed, clamped⟩ ∧ t.arbiter = s.arbiter ∧
      t.link.flag (.ofCarriage c .ended) = s.link.flag (.ofCarriage c .ended) ∧ OtherCarriages s t c ∧
      t.settings = s.settings ∧ t.ringA = s.ringA ∧ t.ringB = s.ringB ∧ t.weather = s.weather ∧ t.store = s.store ∧
      (stage = .ramp → (t.car c).state = .moving ∧ (t.car c).vCmd = (s.car c).vCmd ∧ t.stations = s.stations) ∧
      (stage = .brake → (t.car c).state = .releasing ∧ (t.car c).vCmd = 0 ∧
        (∀ r : Fin 4, (t.car c).rails[r].setpoint = 0) ∧ (t.car c).setTimer = none ∧
        (t.car c).releaseTimer = some ((s.cfg c).releaseTimeout * 1000) ∧
        (∀ n, s.isStationOf c n = true → (s.st n).state = .ready → (t.st n).state = .driving) ∧
        (∀ n, (s.isStationOf c n = false ∨ (s.st n).state ≠ .ready) → t.st n = s.st n)))

/-- R100: STOP of one carriage or of all: each carriage named takes the state the table gives; none has a current
order or a resume record then, and one that was HELD or stopping for a hold has no hold cause (records sound: the
invariant of RecordsStaySound). -/
def Obligations.StopEndsTheOrder : Prop :=
  ∀ (s : State) (tag : Byte), s.takesOrders → RecordsSound s →
    (∀ c : Fin 6, ∃ t, exec (.stop tag (.fields (carriageByte c))) s = .next t ∧ Answered s t 0x12 tag .ok .none ∧
      (t.car c).state = (s.car c).state.afterStop ∧ (t.car c).order = none ∧ (t.car c).resume = none ∧
      ((s.car c).state ≠ (s.car c).state.afterStop →
        (t.car c).order = none ∧ (t.car c).resume = none ∧ (t.car c).holds = {}) ∧
      ((s.car c).state = (s.car c).state.afterStop → t.car c = s.car c) ∧
      ((s.car c).state = .awaitPower → t.arbiter.queue = s.arbiter.queue.filter fun w => w.carriage ≠ c) ∧
      t.arbiter.grants = s.arbiter.grants ∧ t.arbiter.grantedSum = s.arbiter.grantedSum ∧ OtherCarriages s t c ∧
      SamePlant s t) ∧
    (∃ t, exec (.stop tag (.fields 0xFF)) s = .next t ∧ Answered s t 0x12 tag .ok .none ∧
      (∀ c, (t.car c).state = (s.car c).state.afterStop ∧ (t.car c).order = none ∧ (t.car c).resume = none ∧
        ((s.car c).state ≠ (s.car c).state.afterStop → (t.car c).holds = {}) ∧
        ((s.car c).state = (s.car c).state.afterStop → t.car c = s.car c)) ∧
      t.arbiter.queue = (s.arbiter.queue.filter fun w => decide ((s.car w.carriage).state ≠ .awaitPower)) ∧
      t.arbiter.grants = s.arbiter.grants ∧ t.arbiter.grantedSum = s.arbiter.grantedSum ∧ SamePlant s t)

/-- R105, R109, R28, R34, R188: RESUME of a HELD carriage without causes whose checks pass: the order of its resume
record, with its own tag, becomes the current order and the carriage enters AWAIT_POWER. CLEAR takes a TRIPPED
carriage to PARKED when ESTOP is released, every examined station shows its brake set and no FAULT station still
reports a drive fault; its driven stations leave the drive and its FAULT stations are identified afresh. With one of
those failing it is answered REFUSED_STATE, and on a carriage that is not TRIPPED OK: both change nothing but the
answer. -/
def Obligations.ResumeAndClear : Prop :=
  (∀ (s : State) (tag : Byte) (c : Fin 6) (m : ResumeRecord), s.takesOrders → (s.car c).state = .held →
    (s.car c).holds = {} → (s.car c).resume = some m → s.ringOut c = false → s.lines.estop = false →
    s.railsUsable c m.order.task .ready = true → s.windAllows c m.order.task = true →
    s.need c ≤ s.settings.budget →
    ∃ t, exec (.resume tag (.fields (carriageByte c))) s = .next t ∧ Answered s t 0x13 tag .ok .none ∧
      (t.car c).state = .awaitPower ∧ (t.car c).order = some m.order ∧ (t.car c).resume = none ∧
      (t.car c).resumable = false ∧
      t.arbiter = { s.arbiter with queue := insertWaiting (s.newcomer c) s.arbiter.queue,
                                   counter := s.arbiter.counter + 1 } ∧
      t.posts = s.validFrame.posts ++ [.grantAttempt] ∧ OtherCarriages s t c ∧ SamePlant s t) ∧
  (∀ (s : State) (tag : Byte) (c : Fin 6), s.takesOrders →
    ((s.car c).state.isTripped = true → s.lines.estop = false →
      (∀ n, s.isStationOf c n = true → (s.st n).state.clearExamines = true →
        (s.st n).shows Slot.brakeSet = true) →
      (∀ n, s.isStationOf c n = true → (s.st n).state.isFault = true → (s.st n).faultStatus = false) →
      ∃ t, exec (.clear tag (.fields (carriageByte c))) s = .next t ∧ Answered s t 0x14 tag .ok .none ∧
        (t.car c).state = .parked ∧ (t.car c).tripCause = none ∧ (t.car c).brakesUnconfirmed = false ∧
        (t.car c).setTimer = none ∧
        (∀ n, s.isStationOf c n = true →
          ((s.st n).state.isFault = true → (t.st n).state = .identifying) ∧
          ((s.st n).state.isDriven = true → (t.st n).state = .ready ∨ (t.st n).state = .loading) ∧
          ((s.st n).state.isFault = false → (s.st n).state.isDriven = false → (t.st n).state = (s.st n).state) ∧
          (t.st n).lostInTrip = false) ∧
        OtherCarriages s t c ∧ t.settings = s.settings ∧ t.arbiter = s.arbiter ∧ t.weather = s.weather) ∧
    ((s.car c).state.isTripped = true →
      (s.lines.estop = true ∨
        (∃ n, s.isStationOf c n = true ∧ (s.st n).state.clearExamines = true ∧
          (s.st n).shows Slot.brakeSet = false) ∨
        (∃ n, s.isStationOf c n = true ∧ (s.st n).state.isFault = true ∧ (s.st n).faultStatus = true)) →
      ∃ t, exec (.clear tag (.fields (carriageByte c))) s = .next t ∧ Answered s t 0x14 tag .refusedState .none ∧
        OnlyAnswered s t) ∧
    ((s.car c).state.isTripped = false →
      ∃ t, exec (.clear tag (.fields (carriageByte c))) s = .next t ∧ Answered s t 0x14 tag .ok .none ∧
        OnlyAnswered s t))

/-! ## Station service and the rings -/

/-- R33, R37, R40, R41, R42, R86: RETIRE takes a station of a PARKED carriage out of service; RESTORE returns a
RETIRED or FAULT station to OFFLINE. No other station's state and no carriage changes. An accepted RING_QUIET stops
the ring's rounds, empties its queues, sends its stations to OFFLINE and lets no waiting sample set reach its
carriages, whose rails are next extrapolated at the setpoint 0. The settings a RING_WAKE spells have each field in
range; accepted, it gives a QUIET ring its settings and takes it to CLOSED, its first round one period away. -/
def Obligations.StationServiceAndRingOrders : Prop :=
  (∀ (s : State) (tag : Byte) (n : Fin 64), s.takesOrders →
    ((s.st n).state ≠ .unused → (s.st n).state ≠ .retired → (s.car (s.home n)).state = .parked →
      ∃ t, exec (.retire tag (.fields ⟨stationByte n, 0⟩)) s = .next t ∧ Answered s t 0x18 tag .ok .none ∧
        (t.st n).state = .retired ∧ (t.st n).identity = none ∧ (t.st n).params = none ∧ (t.st n).misses = 0 ∧
        (∀ m, m ≠ n → (t.st m).state = (s.st m).state) ∧ t.settings = s.settings ∧ t.carriages = s.carriages ∧
        t.arbiter = s.arbiter) ∧
    (((s.st n).state = .retired ∨ (s.st n).state.isFault = true) →
      ∃ t, exec (.restore tag (.fields ⟨stationByte n, 1⟩)) s = .next t ∧ Answered s t 0x18 tag .ok .none ∧
        (t.st n).state = .offline ∧ (t.st n).misses = 0 ∧ (∀ m, m ≠ n → t.st m = s.st m) ∧
        t.settings = s.settings ∧ t.carriages = s.carriages ∧ t.arbiter = s.arbiter)) ∧
  (∀ (s : State) (tag : Byte) (r : RingId), s.takesOrders → (s.ring r).state ≠ .quiet →
    (∀ c, (s.cfg c).ring = r → (s.car c).state = .parked ∨ (s.car c).state.isTripped = true) →
    ∃ t, exec (.ringQuiet tag (.fields (ringByte r))) s = .next t ∧ Answered s t 0x19 tag .ok .none ∧
      (t.ring r).state = .quiet ∧ (t.ring r).roundTimer = none ∧ (t.ring r).closeTimer = none ∧
      (t.ring r).inFlight = none ∧ (t.ring r).queue = [] ∧ (t.ring r).pendingList = [] ∧
      (∀ n, s.onRing r n = true → (s.st n).state ≠ .unused → (s.st n).state ≠ .retired →
        (t.st n).state = .offline ∧ (t.st n).identity = none ∧ (t.st n).reported = none) ∧
      (∀ c, (s.cfg c).ring = r → t.car c = { s.car c with
        rails := (s.car c).rails.map fun q => { q with written := 0 } } ∧ ∀ m, Post.sample c m ∉ t.posts) ∧
      (∀ c, (s.cfg c).ring ≠ r → t.car c = s.car c) ∧ t.settings = s.settings ∧ t.arbiter = s.arbiter) ∧
  (∀ (b : WakeBody) (g : RingSettings), ringSettingsOf b = some g ↔
    (b.period = 10 ∨ b.period = 20 ∨ b.period = 40 ∨ b.period = 80) ∧ 1 ≤ b.nodes.toNat ∧ b.nodes.toNat ≤ 40 ∧
    200 ≤ b.sampleLead.toNat ∧ b.sampleLead.toNat ≤ 5000 ∧ b.ageLimit.toNat ≤ 5000 ∧ 1 ≤ b.lossLimit.toNat ∧
    b.lossLimit.toNat ≤ 20 ∧
    g = ⟨b.period.toNat, b.nodes.toNat, b.sampleLead.toNat, b.ageLimit.toNat, b.lossLimit.toNat⟩) ∧
  (∀ (s : State) (tag : Byte) (r : RingId) (b : WakeBody) (g : RingSettings), s.takesOrders → s.store.write = none →
    b.ring = ringByte r → ringSettingsOf b = some g → (s.ring r).state = .quiet → s.nodeBeyond r g.nodes = false →
    ∃ t, exec (.ringWake tag (.fields b)) s = .next t ∧ Answered s t 0x1A tag .ok .none ∧
      (t.ring r).state = .closed ∧ t.ringCfg r = g ∧ (t.ring r).roundTimer = some (g.period * 1000) ∧
      (t.ring r).heal = 0 ∧ (t.ring r).empty = 0 ∧ (t.ring r).countArmed = true ∧
      (∀ q, q ≠ r → t.ring q = s.ring q ∧ t.ringCfg q = s.ringCfg q) ∧ t.carriages = s.carriages ∧
      t.stations = s.stations ∧ t.arbiter = s.arbiter)

/-- R29, R45, R62, R89: at its round timer's expiry a ring sends its next round: the sequence rises by 1, the mode is
that of its state, the sample instant is the send time plus the lead, the head of the service queue rides in it and
counts an attempt, and round close comes after three quarters of a period. Each node's slot carries the command and
the setpoint that its station's state and its carriage's state call for, and they become the station's commanded
fields. -/
def Obligations.RoundStartSendsTheNextRound : Prop :=
  (CarriageState.parked.command = .idleBraked ∧ CarriageState.awaitPower.command = .idleBraked ∧
    CarriageState.held.command = .idleBraked ∧ CarriageState.releasing.command = .release ∧
    CarriageState.moving.command = .run ∧ CarriageState.blocked.command = .run ∧
    (∀ p, (CarriageState.stopping p .ramp).command = .run ∧ (CarriageState.stopping p .brake).command = .setBrake) ∧
    (CarriageState.tripped false).command = .quickStop ∧ (CarriageState.tripped true).command = .idleBraked) ∧
  (∀ (s : State) (r : RingId), s.power = .running → (s.ring r).roundTimer.isSome = true →
    (s.ring r).inFlight = none →
    ∃ t f, exec (.roundStart r) s = .next t ∧ (t.ring r).inFlight = some f ∧
      (t.ring r).sequence = (s.ring r).sequence + 1 ∧ f.sequence = (s.ring r).sequence + 1 ∧
      f.openMode = decide ((s.ring r).state ≠ .closed) ∧ f.sendTime = s.fieldTime ∧
      f.sampleInstant = s.fieldTime + BitVec.ofNat 32 (s.ringCfg r).sampleLead ∧
      (t.ring r).roundTimer = some ((s.ringCfg r).period * 1000) ∧
      (t.ring r).closeTimer = some (3 * ((s.ringCfg r).period * 1000) / 4) ∧ f.copy1 = none ∧ f.copy2 = none ∧
      (∀ q rest, (s.ring r).queue = q :: rest → (t.ring r).queue = { q with attempts := q.attempts + 1 } :: rest ∧
        ∃ x, f.request = some x ∧ x.station = q.station ∧ x.kind = q.kind ∧ x.data = q.data) ∧
      ((s.ring r).queue = [] → (t.ring r).queue = [] ∧ f.request = none) ∧
      ((s.ringCfg r).nodes ≤ 40 → f.slots.length = (s.ringCfg r).nodes) ∧
      (∀ node : Fin 40, node.val < (s.ringCfg r).nodes → ∃ d, f.slots[node.val]? = some d ∧
        (s.occupant r node = none → d = ⟨.idleBraked, 0⟩) ∧
        (∀ (n : Fin 64) (k : Carriage), s.occupant r node = some n → k = s.car (s.home n) →
          (t.st n).command = d.command ∧ (t.st n).setpoint = d.setpoint ∧
          ((s.st n).state.isDriven = true → d = ⟨k.state.command,
            if k.state.mayMove = true then k.rails[(s.stCfg n).rail].setpoint else 0⟩) ∧
          ((s.st n).state.isFault = true → d = if k.state.isTripped = true then ⟨k.state.command, 0⟩
            else ⟨.idleBraked, 0⟩) ∧
          ((s.st n).state.isDriven = false → (s.st n).state.isFault = false → d = ⟨.idleBraked, 0⟩))) ∧
      t.carriages = s.carriages ∧
      t.settings = s.settings ∧ t.posts = s.posts)

/-- R45, R49, R185: the layout of the telegram a round is sent as: 42 bytes of header and 16 for each slot; ring id,
mode, sequence, times, a hop count of 0; the node, kind and data of the service request, zero without one; the answer
field zero; in each slot the code of the command and the setpoint, and the rest zero. That the node and the data are
zero beside the kind NONE is the model's choice (log entry 47). It leaves on port 1, in OPEN and DOWN on port 2 as well,
and only while the module runs. -/
def Obligations.TelegramLayout : Prop :=
  (∀ (f : Round) (r : RingId),
    (f.telegram r).length = 42 + 16 * f.slots.length ∧ byteAt (f.telegram r) 0 = (if r = .a then 1 else 2) ∧
    byteAt (f.telegram r) 1 = (if f.openMode then 2 else 1) ∧ halfAt (f.telegram r) 2 = f.sequence ∧
    wordAt (f.telegram r) 4 = f.sendTime ∧ wordAt (f.telegram r) 8 = f.sampleInstant ∧
    byteAt (f.telegram r) 12 = 0 ∧
    (f.request = none → ∀ i, 13 ≤ i → i ≤ 26 → byteAt (f.telegram r) i = 0) ∧
    (∀ q : Carried, f.request = some q →
      byteAt (f.telegram r) 13 = BitVec.ofNat 8 q.node.val ∧
      byteAt (f.telegram r) 14 = (if q.kind = .identify then 1 else 2) ∧
      (q.data = none → ∀ i, 15 ≤ i → i ≤ 26 → byteAt (f.telegram r) i = 0) ∧
      (∀ p, q.data = some p → halfAt (f.telegram r) 15 = BitVec.ofNat 16 p.ceiling ∧
        halfAt (f.telegram r) 17 = BitVec.ofNat 16 p.lossTime ∧
        halfAt (f.telegram r) 19 = BitVec.ofNat 16 p.sampleLead ∧
        ∀ i, 21 ≤ i → i ≤ 26 → byteAt (f.telegram r) i = 0)) ∧
    (∀ i, 27 ≤ i → i ≤ 41 → byteAt (f.telegram r) i = 0) ∧
    (∀ (i : Nat) (d : Downlink), f.slots[i]? = some d →
      byteAt (f.telegram r) (42 + 16 * i) = (match d.command with
        | .idleBraked => 0
        | .release => 1
        | .run => 2
        | .setBrake => 3
        | .quickStop => 4) ∧
      halfAt (f.telegram r) (43 + 16 * i) = BitVec.ofInt 16 d.setpoint ∧
      ∀ j, 45 ≤ j → j ≤ 57 → byteAt (f.telegram r) (j + 16 * i) = 0)) ∧
  (∀ (s : State) (r : RingId),
    (∀ f, s.power = .running → (s.ring r).inFlight = some f → s.portOut r .one = f.telegram r ∧
      s.portOut r .two = if f.openMode = true then f.telegram r else []) ∧
    ((s.ring r).inFlight = none → ∀ port, s.portOut r port = []) ∧
    (s.power ≠ .running → s.lineOut = [] ∧ ∀ port, s.portOut r port = []))

/-- R48: a copy counts as returned only when it passes the line check and carries this ring's id and the sequence of
the round in flight; any other is discarded, and changes no station record, no hop count and no ring state. -/
def Obligations.InvalidCopiesAreDiscarded : Prop :=
  ∀ (s : State) (r : RingId) (port : Port) (inError : Bool) (bytes : List Byte) (signals : Signals),
    s.power = .running →
    (∀ f, (s.ring r).inFlight = some f →
      inError = true ∨ bytes.length ≠ 42 + 16 * (s.ringCfg r).nodes ∨ byteAt bytes 0 ≠ (if r = .a then 1 else 2) ∨
      halfAt bytes 2 ≠ f.sequence) →
    exec (.copyArrival r port inError bytes signals) s = .next s.settle

/-- R46, R52, R54, R55: in CLOSED a valid copy on port 2 completes the round: the ring stays CLOSED, the hop count is
kept, each node's last-filled mark says whether its status byte is nonzero, and no carriage changes state before its
control step. A round in CLOSED that completes at round close with nothing returned takes the ring to OPEN. -/
def Obligations.ClosedRoundsComplete : Prop :=
  (∀ (s : State) (r : RingId) (bytes : List Byte) (signals : Signals) (f : Round), s.power = .running →
    (s.ring r).inFlight = some f → (s.ring r).state = .closed → f.openMode = false → f.copy2 = none →
    bytes.length = 42 + 16 * (s.ringCfg r).nodes → byteAt bytes 0 = (if r = .a then 1 else 2) →
    halfAt bytes 2 = f.sequence →
    ∃ t, exec (.copyArrival r .two false bytes signals) s = .next t ∧ (t.ring r).inFlight = none ∧
      (t.ring r).closeTimer = none ∧ (t.ring r).state = .closed ∧
      (t.ring r).lastReturn = some (byteAt bytes 12).toNat ∧
      (t.ring r).countArmed = decide ((byteAt bytes 12).toNat = (s.ringCfg r).nodes) ∧
      (∀ n : Fin 40, (t.ring r).filled[n] =
        (decide (n.val < (s.ringCfg r).nodes) && decide (byteAt bytes (45 + 16 * n.val) ≠ 0))) ∧
      (∀ c, (t.car c).state = (s.car c).state ∧ (t.car c).vCmd = (s.car c).vCmd ∧
        (t.car c).order = (s.car c).order) ∧
      t.settings = s.settings ∧ t.arbiter = s.arbiter) ∧
  (∀ (s : State) (r : RingId) (signals : Signals) (f : Round), s.power = .running →
    (s.ring r).inFlight = some f → (s.ring r).state = .closed → f.openMode = false → f.copy1 = none →
    f.copy2 = none →
    ∃ t, exec (.roundClose r signals) s = .next t ∧ (t.ring r).inFlight = none ∧ (t.ring r).closeTimer = none ∧
      (t.ring r).state = .opened ∧ (t.ring r).hops = none ∧ (t.ring r).heal = 0 ∧ (t.ring r).empty = 0 ∧
      (∀ n : Fin 40, (t.ring r).filled[n] = false) ∧
      t.link.flag (.ofModule (if r = .a then .ringAChange else .ringBChange)) = true ∧
      (∀ c, (t.car c).state = (s.car c).state ∧ (t.car c).vCmd = (s.car c).vCmd) ∧ t.settings = s.settings ∧
      t.arbiter = s.arbiter)

/-- R53, R84: at every completion of a round, by its last copy or at round close, whatever the ring's state, the P and
S of each carriage of the ring are formed from its rails' means: the rounded mean, and the largest less the smallest;
with some rail's mean absent both are absent. -/
def Obligations.CompletionFormsPositionAndSkew : Prop :=
  ∀ (s : State) (r : RingId) (i : Instr) (f : Round), s.completes r i f →
    ∃ t, exec i s = .next t ∧ (t.ring r).inFlight = none ∧
      ∀ c, (s.cfg c).ring = r → 1 ≤ (s.cfg c).railCount → (s.cfg c).railCount ≤ 4 →
        ((∃ q : Fin 4, q.val < (s.cfg c).railCount ∧ (t.car c).rails[q].mean = none) →
          (t.car c).position = none ∧ (t.car c).skew = none) ∧
        (∀ mean : Fin 4 → Int,
          (∀ q : Fin 4, q.val < (s.cfg c).railCount → (t.car c).rails[q].mean = some (mean q)) →
          (t.car c).position = some (rounded ((s.railsOf c).map mean).sum (s.cfg c).railCount) ∧
          ∃ hi lo : Fin 4, hi.val < (s.cfg c).railCount ∧ lo.val < (s.cfg c).railCount ∧
            (∀ q : Fin 4, q.val < (s.cfg c).railCount → mean q ≤ mean hi ∧ mean lo ≤ mean q) ∧
            (t.car c).skew = some (mean hi - mean lo))

/-- R19 to R21, R30 to R32, R47, R49, R51, R52: what a completion that carries no service request does to the record
of a station, in every state of the ring, by its last copy or at round close. Its slot's uplink bytes, in the copy
that R46 and R47 take it from; the reported fields, the misses, a drive fault, the loss by misses, the limit flag, and
the enumeration of a station that shows present. A station lost by a downlink miss in a slot that shows present is
enumerated in the same completion, and the limit flag of one that has faulted or is lost trips nothing (log entries 7
and 8). -/
def Obligations.CompletionJudgesStations : Prop :=
  (∀ (bytes : List Byte) (k : Nat), copySlot bytes k =
    ⟨byteAt bytes (45 + 16 * k), halfAt bytes (46 + 16 * k), halfAt bytes (48 + 16 * k),
      (tripleAt bytes (50 + 16 * k)).toInt, (halfAt bytes (53 + 16 * k)).toInt, (halfAt bytes (55 + 16 * k)).toInt,
      (byteAt bytes (57 + 16 * k)).toNat⟩) ∧
  (∀ (s : State) (r : RingId) (i : Instr) (f : Round) (node : Fin 40) (n : Fin 64) (c : Fin 6) (N misses : Nat)
    (source : Option (List Byte)) (slot : Option Slot) (good lost : Prop),
    s.completes r i f → f.request = none → s.occupant r node = some n → c = s.home n → N = (s.ringCfg r).nodes →
    node.val < N →
    source = (if f.openMode = false then f.copy2
      else if node.val < min (byteAt (f.copy1.getD []) 12).toNat N then f.copy1
      else if N - min (byteAt (f.copy2.getD []) 12).toNat N ≤ node.val then f.copy2 else none) →
    slot = source.bind (fun bytes =>
      if (copySlot bytes node.val).status = 0 then none else some (copySlot bytes node.val)) →
    good = (∃ x, slot = some x ∧ ((s.ring r).filled[node] = false ∨ x.heard = f.sequence - 1)) →
    (good → misses = 0) → (¬ good → misses = min 255 ((s.st n).misses + 1)) →
    lost = ((s.st n).state.canBeLost = true ∧ (s.ringCfg r).lossLimit ≤ misses) →
    ∃ t, exec i s = .next t ∧
      (t.st n).misses = (if (s.st n).state = .retired then (s.st n).misses else misses) ∧
      (slot = none →
        (t.st n).reported = (s.st n).reported ∧ (t.st n).faultStatus = (s.st n).faultStatus ∧
        (t.st n).limitArmed = (s.st n).limitArmed ∧
        (lost → (t.st n).state = .lost ∧ t.link.flag (.ofCarriage c .stationLost) = true ∧
          ((s.st n).state.isDriven = true → Post.hold c .stationLoss ∈ t.posts))) ∧
      (∀ x, slot = some x →
        (t.st n).reported = some ⟨x, f.sequence⟩ ∧ (t.st n).faultStatus = x.status.getLsbD 3 ∧
        (x.status.getLsbD 3 = true → (s.st n).state ≠ .unused → (s.st n).state ≠ .retired →
          (t.st n).state = .fault .drive ∧ (t.st n).limitArmed = (s.st n).limitArmed ∧
          ((s.st n).state.isFault = false → t.link.flag (.ofCarriage c .stationFault) = true) ∧
          ((s.st n).state.isDriven = true → Post.trip c .stationFault ∈ t.posts)) ∧
        (x.status.getLsbD 3 = false → lost →
          (t.st n).state = (if x.status.getLsbD 0 = true then .identifying else .lost) ∧
          (t.st n).limitArmed = (s.st n).limitArmed ∧ t.link.flag (.ofCarriage c .stationLost) = true ∧
          ((s.st n).state.isDriven = true → Post.hold c .stationLoss ∈ t.posts)) ∧
        (x.status.getLsbD 3 = false → ¬ lost → (s.st n).state.isDriven = true →
          (t.st n).limitArmed = !x.status.getLsbD 4 ∧
          (x.status.getLsbD 4 = true → (s.st n).limitArmed = true → Post.trip c .limit ∈ t.posts)) ∧
        (x.status.getLsbD 3 = false → x.status.getLsbD 0 = true →
          (lost ∨ (s.st n).state = .offline ∨ (s.st n).state = .lost) →
          (t.st n).state = .identifying ∧ (t.st n).reckoning.kind = .none ∧
          ((∃ q ∈ (t.ring r).queue, q.station = n ∧ q.kind = .identify) ∨
            (t.st n).pendingRequest = some ⟨.identify, none⟩))) ∧
      (Post.trip c .limit ∈ t.posts → Post.trip c .limit ∈ s.posts ∨
        ∃ m x, s.isStationOf c m = true ∧ (s.st m).state.isDriven = true ∧ (s.st m).limitArmed = true ∧
          (t.st m).limitArmed = false ∧ (t.st m).reported = some x ∧ x.slot.status.getLsbD 4 = true))

/-- R47, R51, R56 to R60: a completion in OPEN or DOWN. The hop counts and the filled slots come from the copies as
R47 says; the heal count counts the completions with both edges of the same break up, the empty count those with
nothing returned. At 10 an OPEN ring heals to CLOSED (at 10 and 3 together too: log entry 34), at 3 empty ones it goes
DOWN and posts RING_DOWN to its carriages in motion; a return takes a DOWN ring to OPEN. Each change of state posts
its event with its reason; that the event of a heal carries the hop counts of its completion and their range, though
h1 and h2 are absent after it, is the model's choice (log entry 15). A first copy waits for the second, which
completes the round as round close would with both. -/
def Obligations.CompletionsInOpenAndDown : Prop :=
  (∀ (s : State) (r : RingId) (signals : Signals) (f : Round) (N h1 h2 heal empty : Nat) (status : Nat → Byte)
    (up : Bool) (range : Option (Nat × Nat)),
    s.power = .running → (s.ring r).inFlight = some f → f.openMode = true → N = (s.ringCfg r).nodes →
    h1 = min (byteAt (f.copy1.getD []) 12).toNat N → h2 = min (byteAt (f.copy2.getD []) 12).toNat N →
    (∀ i, status i = if N ≤ i then 0 else if i < h1 then byteAt (f.copy1.getD []) (45 + 16 * i)
      else if N - h2 ≤ i then byteAt (f.copy2.getD []) (45 + 16 * i) else 0) →
    up = ((if h1 = 0 then signals.port1 else (status (h1 - 1)).getLsbD 5) &&
      (if h2 = 0 then signals.port2 else (status (N - h2)).getLsbD 5)) →
    heal = (if up = false then 0 else if (s.ring r).hops = some (h1, h2) then (s.ring r).heal + 1 else 1) →
    empty = (if f.copy1 = none ∧ f.copy2 = none then (s.ring r).empty + 1 else 0) →
    range = (if h1 + h2 < N then some (h1, N - h2 - 1) else none) →
    ∃ t, exec (.roundClose r signals) s = .next t ∧ (t.ring r).inFlight = none ∧ (t.ring r).closeTimer = none ∧
      (∀ n : Fin 40, (t.ring r).filled[n] = decide (status n.val ≠ 0)) ∧
      (∀ c, (t.car c).state = (s.car c).state ∧ (t.car c).vCmd = (s.car c).vCmd) ∧ t.settings = s.settings ∧
      t.arbiter = s.arbiter ∧
      ((s.ring r).state = .opened →
        (10 ≤ heal → (t.ring r).state = .closed ∧ (t.ring r).hops = none ∧ (t.ring r).countArmed = true ∧
          ∃ l : Link, t.link = (l.post s.settings.notices
            (.ringState ⟨r, .opened, .closed, .healed, some (h1, h2), range⟩)).choose) ∧
        (heal < 10 → 3 ≤ empty → (t.ring r).state = .down ∧ (t.ring r).hops = some (h1, h2) ∧
          (∃ l : Link, t.link = (l.post s.settings.notices
            (.ringState ⟨r, .opened, .down, .empty, some (h1, h2), range⟩)).choose) ∧
          (∀ c, (s.cfg c).ring = r → (s.car c).state.inMotion = true → Post.trip c .ringDown ∈ t.posts) ∧
          (∀ c, Post.trip c .ringDown ∈ t.posts → Post.trip c .ringDown ∈ s.posts ∨
            ((s.cfg c).ring = r ∧ (s.car c).state.inMotion = true))) ∧
        (heal < 10 → empty < 3 → (t.ring r).state = .opened ∧ (t.ring r).hops = some (h1, h2) ∧
          (t.ring r).heal = heal ∧ (t.ring r).empty = empty)) ∧
      ((s.ring r).state = .down →
        (f.copy1 = none → f.copy2 = none → (t.ring r).state = .down ∧ (t.ring r).hops = some (0, 0)) ∧
        ((f.copy1 ≠ none ∨ f.copy2 ≠ none) → (t.ring r).state = .opened ∧ (t.ring r).hops = some (h1, h2) ∧
          (t.ring r).heal = 0 ∧ (t.ring r).empty = 0 ∧
          ∃ l : Link, t.link = (l.post s.settings.notices
            (.ringState ⟨r, .down, .opened, .returned, some (h1, h2), range⟩)).choose))) ∧
  (∀ (s : State) (r : RingId) (port : Port) (bytes : List Byte) (signals : Signals) (f f' : Round),
    s.power = .running → (s.ring r).inFlight = some f → f.openMode = true →
    bytes.length = 42 + 16 * (s.ringCfg r).nodes → byteAt bytes 0 = (if r = .a then 1 else 2) →
    halfAt bytes 2 = f.sequence →
    ((port = .one ∧ f.copy1 = none ∧ f' = { f with copy1 := some bytes }) ∨
      (port = .two ∧ f.copy2 = none ∧ f' = { f with copy2 := some bytes })) →
    ((f.copy1 = none ∧ f.copy2 = none) →
      ∃ t, exec (.copyArrival r port false bytes signals) s = .next t ∧ (t.ring r).inFlight = some f' ∧
        t.stations = s.stations ∧ t.carriages = s.carriages ∧ t.posts = s.posts ∧ t.settings = s.settings) ∧
    ((f.copy1 ≠ none ∨ f.copy2 ≠ none) →
      exec (.copyArrival r port false bytes signals) s =
        exec (.roundClose r signals) (s.modRing r fun g => { g with inFlight := some f' })))

/-- R1, R67, R70 to R73, R75, R77 to R79: rounding is to the nearest integer, halves away from zero, and a plate is
valid for a station when its table and its rail mask say so. What the taking of a slot makes of a station's reckoning
fields: its last fields, its cumulative counts, and by its plate no passage, a lost reference, or a passage with its
slip check; its position, clamped into the coordinate range with the exclusion IMPLAUSIBLE. At a completion in CLOSED
a driven station that stays one is reckoned so from its filled slot, but for the exclusion DEVIATION, and its
exclusion decides whether it is DRIVING or SIDELINED; an unfilled slot leaves its reckoning fields. -/
def Obligations.StationsAreReckonedFromTheirSlots : Prop :=
  (∀ (a : Int) (b : Nat), 0 < b → 2 * (a - rounded a b * b).natAbs ≤ b ∧
    (2 * (a - rounded a b * b).natAbs = b → a.natAbs < (rounded a b * b).natAbs)) ∧
  (∀ (s : State) (n : Fin 64) (id : Half) (p : Plate) (table : PlateTable), table = s.settings.plates[s.home n] →
    (∀ (i j : Fin 128) (x y : Plate), table[i] = some x → table[j] = some y → x.id = y.id → i = j) →
    (s.plateFor n id = some p ↔
      p.id = id ∧ (∃ i : Fin 128, table[i] = some p) ∧ p.mask.getLsbD (s.stCfg n).rail.val = true)) ∧
  (∀ (s t : State) (h : HandOff) (n : Fin 64) (slot : Slot) (k k' : Reckoning) (scale elapsed : Nat)
    (place : Int → Int) (within : Int → Prop),
    t = s.takeSlot h n slot → k = (s.st n).reckoning → k' = (t.st n).reckoning →
    scale = ((s.st n).identity.map Identity.scale).getD 0 →
    elapsed = h.settings.period * (h.sequence - k.lastRound).toNat →
    (∀ B, place B = B + rounded (slot.counts * scale) 1000 - (s.stCfg n).mount -
      rounded (slot.speed * slot.offset) 1000000) →
    (∀ B, within B ↔ -50000 ≤ place B ∧ place B ≤ 300000) →
    k'.lastPlate = some slot.plate ∧ k'.lastCounts = slot.counts ∧ k'.lastSpeed = slot.speed ∧
    k'.lastRound = h.sequence ∧
    (k.lastPlate = none → k'.cumulative = k.cumulative) ∧
    (k.lastPlate = some slot.plate → k'.cumulative = k.cumulative + (slot.counts - k.lastCounts)) ∧
    ((k.lastPlate = none ∨ k.lastPlate = some slot.plate) → k'.kind = k.kind ∧ k'.base = k.base ∧
      (k.base = none → k'.lastPosition = none ∧ k'.exclusion = k.exclusion) ∧
      (∀ B, (k.base = some (.seed B) ∨
          ∃ p, k.base = some (.plate p.id) ∧ s.plateFor n p.id = some p ∧ B = p.position) →
        k'.lastPosition = some (clampInt (-50000) 300000 (place B)) ∧
        (within B → k'.exclusion = k.exclusion) ∧ (¬ within B → k'.exclusion = some .implausible))) ∧
    (∀ last, k.lastPlate = some last → slot.plate ≠ last →
      k'.cumulative = k.cumulative + rounded (k.lastSpeed * elapsed) scale ∧
      ((slot.plate = 0 ∨ s.plateFor n slot.plate = none) → k'.kind = .none ∧ k'.base = none ∧
        k'.exclusion = some .unreferenced ∧ k'.lastPosition = none ∧
        t.link.flag (.ofCarriage (s.home n) .plateUnknown) = true) ∧
      (∀ (p : Plate) (passes : Prop), slot.plate ≠ 0 → s.plateFor n slot.plate = some p →
        passes = (∀ q, k.lastPosition = some q →
          (place p.position - (q + rounded (k.lastSpeed * elapsed) 1000)).natAbs ≤ (s.cfg (s.home n)).slipLimit) →
        k'.base = some (.plate slot.plate) ∧
        k'.lastPosition = some (clampInt (-50000) 300000 (place p.position)) ∧
        (passes → k'.kind = .referenced ∧ (within p.position → k'.exclusion = none)) ∧
        (¬ passes → k'.kind = .none ∧ (within p.position → k'.exclusion = some .slip) ∧
          t.link.flag (.ofCarriage (s.home n) .slip) = true) ∧
        (¬ within p.position → k'.exclusion = some .implausible)))) ∧
  (∀ (s : State) (r : RingId) (bytes : List Byte) (signals : Signals) (f : Round) (node : Fin 40) (n : Fin 64)
    (slot : Slot) (k : Reckoning), s.awaitsCopy r f bytes → f.request = none → 1 ≤ (s.ringCfg r).lossLimit →
    s.occupant r node = some n → node.val < (s.ringCfg r).nodes → slot = copySlot bytes node.val →
    (s.st n).state.isDriven = true →
    k = ((s.takeSlot ⟨s.ringCfg r, f.sequence, fun _ => none⟩ n slot).st n).reckoning →
    ∃ t, exec (.copyArrival r .two false bytes signals) s = .next t ∧
      (slot.status ≠ 0 → slot.status.getLsbD 3 = false →
        ((s.ring r).filled[node] = false ∨ slot.heard = f.sequence - 1) →
        ∃ x, (t.st n).reckoning = { k with exclusion := x } ∧
          (x = k.exclusion ∨ (k.exclusion = none ∧ x = some .deviation)) ∧
          (x = none → (t.st n).state = .driving) ∧ (∀ y, x = some y → (t.st n).state = .sidelined y)) ∧
      (slot.status = 0 → min 255 ((s.st n).misses + 1) < (s.ringCfg r).lossLimit →
        (t.st n).reckoning = (s.st n).reckoning))

/-- R80 to R83, R85, R87: what a rail's candidates make of it: without one it is blind and extrapolated at the
setpoint last written, within the coordinate range (log entry 13); one gives its position, two their rounded mean and
the split mark, three or more the rounded mean, from which the farthest beyond the deviation limit, the first among
equals, is set aside. At a completion in CLOSED every rail is formed so from candidates that are placed stations of
the rail with fresh slots, every DRIVING one and every REFERENCED READY one of a carriage at rest among them; and a
READY station of kind NONE of a PARKED carriage is seeded from its rail's mean exactly when a REFERENCED station
contributes to the rail. At every completion each carriage of the ring is delivered a sample set of its P, S and
rails, which carries the cause of its lowest-numbered rail that calls for one while the carriage is in motion:
RAIL_SPLIT for a split rail, RAIL_BLIND for a blind count beyond the tolerance, but not for a SEEK or its stop. -/
def Obligations.RailMeansAndSeeding : Prop :=
  (∀ (prev : Rail) (limit period : Nat),
    (formRail prev [] limit period).rail =
      { prev with mean := prev.mean.map fun m => clampInt (-50000) 300000 (m + rounded (prev.written * period) 1000),
                  contributors := 0, blind := min 255 (prev.blind + 1), split := false } ∧
    (∀ x, (formRail prev [x] limit period).rail =
      { prev with mean := some x.position, contributors := 1, blind := 0, split := false }) ∧
    (∀ x y, (formRail prev [x, y] limit period).rail =
      { prev with mean := some (rounded (x.position + y.position) 2), contributors := 2, blind := 0,
                  split := decide (2 * limit < (x.position - y.position).natAbs) }) ∧
    (∀ (cs : List Candidate) (m : Int), 3 ≤ cs.length → cs.Pairwise (fun x y => x.station < y.station) →
      m = rounded (cs.map Candidate.position).sum cs.length →
      ((∀ x ∈ cs, (x.position - m).natAbs ≤ limit) →
        (formRail prev cs limit period).deviant = none ∧ (formRail prev cs limit period).rail =
          { prev with mean := some m, contributors := cs.length, blind := 0, split := false }) ∧
      ((∃ x ∈ cs, limit < (x.position - m).natAbs) → ∃ (x : Candidate) (before later : List Candidate),
        cs = before ++ x :: later ∧ (∀ y ∈ before, (y.position - m).natAbs < (x.position - m).natAbs) ∧
        (∀ y ∈ later, (y.position - m).natAbs ≤ (x.position - m).natAbs) ∧
        (formRail prev cs limit period).deviant = some x.station ∧ (formRail prev cs limit period).rail =
          { prev with mean := some (rounded ((before ++ later).map Candidate.position).sum (cs.length - 1)),
                      contributors := cs.length - 1, blind := 0, split := false }))) ∧
  (∀ (s : State) (r : RingId) (bytes : List Byte) (signals : Signals) (f : Round) (fresh : Fin 64 → Prop),
    s.awaitsCopy r f bytes → f.request = none →
    (∀ n, fresh n ↔ (s.stCfg n).node.val < (s.ringCfg r).nodes ∧
      (copySlot bytes (s.stCfg n).node.val).status ≠ 0 ∧
      (copySlot bytes (s.stCfg n).node.val).offset.natAbs ≤ (s.ringCfg r).ageLimit) →
    ∃ t, exec (.copyArrival r .two false bytes signals) s = .next t ∧
      ∀ (c : Fin 6) (q : Fin 4), (s.cfg c).ring = r → q.val < (s.cfg c).railCount →
        (∃ cs : List Candidate, cs.Pairwise (fun x y => x.station < y.station) ∧
          (t.car c).rails[q] =
            (formRail (s.car c).rails[q] cs (s.cfg c).deviationLimit (s.ringCfg r).period).rail ∧
          (∀ x ∈ cs, s.isStationOf c x.station = true ∧ (s.stCfg x.station).rail = q ∧ fresh x.station ∧
            (t.st x.station).reckoning.lastPosition = some x.position ∧
            (t.st x.station).reckoning.kind ≠ .none ∧
            ((t.st x.station).reckoning.exclusion = none ∨
              (t.st x.station).reckoning.exclusion = some .deviation)) ∧
          (∀ n, s.isStationOf c n = true → (s.stCfg n).rail = q → fresh n → (t.st n).state = (s.st n).state →
            (t.st n).reckoning.exclusion = none → (t.st n).reckoning.lastPosition.isSome = true →
            (((s.st n).state = .driving ∧ (t.st n).reckoning.kind ≠ .none) ∨
              ((s.st n).state = .ready ∧ (t.st n).reckoning.kind = .referenced ∧
                ((s.car c).state = .parked ∨ (s.car c).state = .awaitPower ∨ (s.car c).state = .held))) →
            n ∈ cs.map Candidate.station)) ∧
        (∀ (n : Fin 64) (anchored : Prop), (s.car c).state = .parked → s.isStationOf c n = true →
          (s.stCfg n).rail = q → fresh n → (s.st n).state = .ready → (t.st n).state = .ready →
          (s.st n).reckoning.kind = .none → (s.st n).reckoning.base = none → (s.st n).reckoning.exclusion = none →
          ((s.st n).reckoning.lastPlate = none ∨
            (s.st n).reckoning.lastPlate = some (copySlot bytes (s.stCfg n).node.val).plate) →
          anchored = (∃ x, s.isStationOf c x = true ∧ (s.stCfg x).rail = q ∧ fresh x ∧
            ((s.st x).state = .ready ∨ (s.st x).state = .driving) ∧ (t.st x).state = (s.st x).state ∧
            (t.st x).reckoning.kind = .referenced ∧ (t.st x).reckoning.exclusion = none ∧
            (t.st x).reckoning.lastPosition.isSome = true) →
          (anchored → ∃ m, (t.car c).rails[q].mean = some m ∧ (t.st n).reckoning.kind = .seeded ∧
            (t.st n).reckoning.lastPosition = some m ∧
            (t.st n).reckoning.base = some (.seed (m + (s.stCfg n).mount - rounded
              ((copySlot bytes (s.stCfg n).node.val).counts *
                (((s.st n).identity.map Identity.scale).getD 0 : Nat)) 1000))) ∧
          (¬ anchored → (t.st n).reckoning.kind = .none))) ∧
  (∀ (s : State) (r : RingId) (i : Instr) (f : Round), s.completes r i f →
    ∃ t, exec i s = .next t ∧ ∀ (c : Fin 6), (s.cfg c).ring = r →
      ∃ before later m, t.posts = before ++ Post.sample c m :: later ∧ (∀ x, Post.sample c x ∉ later) ∧
        m.p = (t.car c).position ∧ m.s = (t.car c).skew ∧
        (∀ q : Fin 4, m.rails[q].mean = (t.car c).rails[q].mean ∧
          m.rails[q].contributors = (t.car c).rails[q].contributors ∧
          m.rails[q].blind = (t.car c).rails[q].blind ∧ m.rails[q].split = (t.car c).rails[q].split ∧
          (m.rails[q].referenced = true ↔ ∃ n, s.isStationOf c n = true ∧ (s.stCfg n).rail = q ∧
            (t.st n).state = .driving ∧ (t.st n).reckoning.kind = .referenced)) ∧
        ∀ calls : Fin 4 → TripCause → Prop,
          (∀ q cause, calls q cause ↔ q.val < (s.cfg c).railCount ∧
            ((s.car c).state = .releasing ∨ (s.car c).state = .moving ∨ (s.car c).state = .blocked ∨
              ∃ p g, (s.car c).state = .stopping p g) ∧
            (((t.car c).rails[q].split = true ∧ cause = .railSplit) ∨
              ((t.car c).rails[q].split = false ∧ (s.cfg c).blindTolerance < (t.car c).rails[q].blind ∧
                (∀ o d x, (s.car c).order = some o → o.task ≠ .seek d x) ∧ (s.car c).seekStop = false ∧
                cause = .railBlind))) →
          ∀ cause, m.trip = some cause ↔ ∃ q, calls q cause ∧ ∀ q' other, calls q' other → q ≤ q')

/-- R22, R23, R25, R62: what a completion in CLOSED does for the station of the request in flight, whose slot is good.
An IDENTIFY answer gives its identity, and takes it to LOADING with a LOAD request for its parameter set, or to
FAULT(IDENTITY). A LOAD answer takes it to READY, has the present set loaded afresh, or takes it to FAULT(LOAD).
Without an answer the third attempt takes it to LOST, and from there, its slot showing present, to IDENTIFYING (log
entry 7); before, nothing changes. A request that has left the queue, and an answer that the state does not ask for,
change neither identity nor set. -/
def Obligations.ServiceAnswersDecideTheState : Prop :=
  ∀ (s : State) (r : RingId) (bytes : List Byte) (signals : Signals) (f : Round) (q : Carried) (node : Fin 40)
    (n : Fin 64) (slot : Slot) (answered : Prop) (identity : Identity) (P echo : ParamSet),
    s.awaitsCopy r f bytes → f.request = some q → q.station = n → 1 ≤ (s.ringCfg r).lossLimit →
    s.occupant r node = some n → node.val < (s.ringCfg r).nodes → slot = copySlot bytes node.val →
    slot.status ≠ 0 → slot.status.getLsbD 3 = false →
    ((s.ring r).filled[node] = false ∨ slot.heard = f.sequence - 1) →
    answered = (byteAt bytes 29 ≠ 0 ∧ (byteAt bytes 27).toNat = q.node.val ∧
      (byteAt bytes 28).toNat = (if q.kind = .identify then 1 else 2)) →
    identity = ⟨(byteAt bytes 30).toNat, (halfAt bytes 31).toNat, (byteAt bytes 33).toNat, (halfAt bytes 34).toNat,
      (byteAt bytes 36).toNat, if byteAt bytes 29 = 2 ∧ halfAt bytes 37 ≠ 0
        then some ⟨halfAt bytes 37, (tripleAt bytes 39).toInt⟩ else none⟩ →
    P = ⟨min ((s.cfg (s.home n)).maxSpeed + (s.cfg (s.home n)).trimLimit) identity.ratedSpeed,
      (s.ringCfg r).lossLimit * (s.ringCfg r).period, (s.ringCfg r).sampleLead⟩ →
    echo = ⟨(halfAt bytes 30).toNat, (halfAt bytes 32).toNat, (halfAt bytes 34).toNat⟩ →
    ∃ t, exec (.copyArrival r .two false bytes signals) s = .next t ∧
      (q.live = true → answered → q.kind = .identify → (s.st n).state = .identifying → ∀ valid : Prop,
        valid = (identity.typeCode ≠ 0 ∧ 1 ≤ identity.scale ∧ identity.scale ≤ 4000 ∧ 1 ≤ identity.ratedPower ∧
          identity.ratedPower ≤ 200 ∧ (s.cfg (s.home n)).creepSpeed ≤ identity.ratedSpeed ∧
          identity.quickStop ≠ 0 ∧ slot.status.getLsbD 1 = true) →
        (t.st n).identity = some identity ∧
        (valid → (t.st n).state = .loading ∧ (t.st n).params = some P ∧ (t.st n).echoed = false ∧
          ((∃ x ∈ (t.ring r).queue, x.station = n ∧ x.kind = .load ∧ x.data = some P) ∨
            (t.st n).pendingRequest = some ⟨.load, some P⟩)) ∧
        (¬ valid → (t.st n).state = .fault .identity ∧
          t.link.flag (.ofCarriage (s.home n) .stationFault) = true)) ∧
      (q.live = true → answered → q.kind = .load → (s.st n).state = .loading →
        ((s.st n).params = some echo → (t.st n).state = .ready ∧ (t.st n).echoed = true ∧
          (t.st n).params = some echo) ∧
        ((s.st n).params ≠ some echo → (s.st n).inFlight = some echo → (t.st n).state = .loading ∧
          ∃ p, (t.st n).params = some p ∧
            ((∃ x ∈ (t.ring r).queue, x.station = n ∧ x.kind = .load ∧ x.data = some p) ∨
              (t.st n).pendingRequest = some ⟨.load, some p⟩)) ∧
        ((s.st n).params ≠ some echo → (s.st n).inFlight ≠ some echo → (t.st n).state = .fault .load ∧
          t.link.flag (.ofCarriage (s.home n) .stationFault) = true)) ∧
      (∀ x, q.live = true → ¬ answered →
        (s.ring r).queue.find? (fun y => decide (y.station = n) && decide (y.kind = q.kind)) = some x →
        ((s.st n).state = .identifying ∨ (s.st n).state = .loading) →
        (x.attempts < 3 → (t.st n).state = (s.st n).state ∧ x ∈ (t.ring r).queue) ∧
        (3 ≤ x.attempts → (t.st n).state = (if slot.status.getLsbD 0 = true then .identifying else .lost) ∧
          t.link.flag (.ofCarriage (s.home n) .stationLost) = true)) ∧
      ((q.live = false ∨ (q.kind = .identify ∧ (s.st n).state ≠ .identifying) ∨
          (q.kind = .load ∧ (s.st n).state ≠ .loading)) →
        (t.st n).identity = (s.st n).identity ∧ (t.st n).params = (s.st n).params)

/-! ## The carriage engines -/

/-- R114, R116 to R118, R120, R123: between two steps in MOVING or in the ramp stage of STOPPING the speed rises by
inc and falls by dec at most, each the floor of its rate over a round period of T ms and at least 1; it passes through
0 to change its direction. A step that enters MOVING from RELEASING or BLOCKED is not among these. -/
def Obligations.StepIncrements : Prop :=
  ∀ (s : State) (c : Fin 6) (m : SampleSet) (rest : List Post) (inc dec period : Nat), s.stepsOn c m rest →
    period = (s.ringCfg (s.cfg c).ring).period →
    inc = max 1 ((s.cfg c).acceleration * period / 1000) → dec = max 1 ((s.cfg c).deceleration * period / 1000) →
    ((s.car c).state = .moving ∨ ∃ p, (s.car c).state = .stopping p .ramp) →
    ∃ t, exec (.controlStep c) s = .next t ∧
      (((t.car c).state = .moving ∨ ∃ p, (t.car c).state = .stopping p .ramp) →
        (t.car c).vCmd.natAbs ≤ (s.car c).vCmd.natAbs + inc ∧
        (s.car c).vCmd.natAbs ≤ (t.car c).vCmd.natAbs + dec ∧
        (0 < (s.car c).vCmd → 0 ≤ (t.car c).vCmd) ∧ ((s.car c).vCmd < 0 → (t.car c).vCmd ≤ 0))

/-- R106, R107, R113, R127, R128, R129: at a control step on a sample set that carries a trip cause a carriage in
RELEASING, MOVING, BLOCKED or STOPPING trips with that cause, before any other part of the step; in another state the
cause trips nothing. At a control step in RELEASING, MOVING, BLOCKED or STOPPING an S above skew trip trips the
carriage with the cause SKEW, after the skew warning; in other states it trips nothing. A carriage whose brakes are
found set in the same step has left STOPPING and does not trip. In those states too a P beyond a travel limit by more
than the margin trips the carriage with the cause OVERTRAVEL, unless the step trips on skew; a step without P makes no
such check. -/
def Obligations.SkewAndOvertravelTrip : Prop :=
  (∀ (s : State) (c : Fin 6) (m : SampleSet) (rest : List Post) (cause : TripCause), s.stepsOn c m rest →
    m.trip = some cause →
    (((s.car c).state = .releasing ∨ (s.car c).state = .moving ∨ (s.car c).state = .blocked ∨
        ∃ p g, (s.car c).state = .stopping p g) →
      ∃ t, exec (.controlStep c) s = .next t ∧ (t.car c).state = .tripped false ∧ (t.car c).tripCause = some cause ∧
        (t.car c).vCmd = 0 ∧ (∀ q : Fin 4, (t.car c).rails[q].setpoint = 0) ∧ (t.car c).order = none ∧
        (t.car c).skewWarnArmed = (s.car c).skewWarnArmed ∧
        (t.car c).setTimer = some ((s.cfg c).setTimeout * 1000) ∧
        t.arbiter.grants = (s.arbiter.grants.filter fun g => g.carriage ≠ c) ∧
        t.link.flag (.ofCarriage c .tripped) = true ∧ t.stations = s.stations ∧ OtherCarriages s t c) ∧
    ((s.car c).state.inMotion = false →
      ∃ t, exec (.controlStep c) s = .next t ∧ (t.car c).tripCause = (s.car c).tripCause ∧ t.arbiter = s.arbiter ∧
        ((s.car c).state.isTripped = false → (t.car c).state = (s.car c).state) ∧
        ((s.car c).state.isTripped = true → (t.car c).state.isTripped = true) ∧ OtherCarriages s t c)) ∧
  (∀ (s : State) (c : Fin 6) (m : SampleSet) (rest : List Post) (skew : Int), s.stepsOn c m rest →
    m.trip = none → m.s = some skew → ((s.cfg c).skewTrip : Int) < skew →
    ∃ t, exec (.controlStep c) s = .next t ∧
      (((s.car c).state = .releasing ∨ (s.car c).state = .moving ∨ (s.car c).state = .blocked ∨
          (∃ p, (s.car c).state = .stopping p .ramp) ∨
          (∃ p, (s.car c).state = .stopping p .brake ∧ s.allShow (s.drivenOf c) Slot.brakeSet = false)) →
        (t.car c).state = .tripped false ∧ (t.car c).tripCause = some .skew ∧ (t.car c).vCmd = 0) ∧
      (((s.car c).state = .parked ∨ (s.car c).state = .awaitPower ∨ (s.car c).state = .held) →
        (t.car c).state = (s.car c).state) ∧
      ((∃ p, (s.car c).state = .stopping p .brake ∧ s.allShow (s.drivenOf c) Slot.brakeSet = true) →
        (t.car c).state.isTripped = false) ∧
      ((s.car c).state.isTripped = true → (t.car c).tripCause = (s.car c).tripCause) ∧
      (((s.cfg c).skewWarn : Int) < skew → (s.car c).skewWarnArmed = true →
        t.link.flag (.ofCarriage c .skewWarn) = true)) ∧
  (∀ (s : State) (c : Fin 6) (m : SampleSet) (rest : List Post), s.stepsOn c m rest →
    m.trip = none → skewTrips (s.cfg c) m = false →
    ∃ t, exec (.controlStep c) s = .next t ∧
      (∀ p, m.p = some p →
        (p < (s.cfg c).travelMin - (s.cfg c).overtravelMargin ∨
          (s.cfg c).travelMax + (s.cfg c).overtravelMargin < p) →
        ((s.car c).state = .releasing ∨ (s.car c).state = .moving ∨ (s.car c).state = .blocked ∨
          (∃ q, (s.car c).state = .stopping q .ramp) ∨
          (∃ q, (s.car c).state = .stopping q .brake ∧ s.allShow (s.drivenOf c) Slot.brakeSet = false)) →
        (t.car c).state = .tripped false ∧ (t.car c).tripCause = some .overtravel ∧ (t.car c).vCmd = 0) ∧
      ((m.p = none ∨ (∃ p, m.p = some p ∧ (s.cfg c).travelMin - (s.cfg c).overtravelMargin ≤ p ∧
          p ≤ (s.cfg c).travelMax + (s.cfg c).overtravelMargin)) →
        (t.car c).state.isTripped = (s.car c).state.isTripped))

/-- R86, R113, R114, R133: the control step of a carriage in PARKED, AWAIT_POWER or HELD keeps its state, writes a
commanded speed and setpoints of 0, and publishes its reach. A carriage whose ring is QUIET takes no control step. -/
def Obligations.ControlStepAtRest : Prop :=
  (∀ (s : State) (c : Fin 6), s.power = .running → (s.ring (s.cfg c).ring).state = .quiet →
    exec (.controlStep c) s = .next s.settle) ∧
  (∀ (s : State) (c : Fin 6) (m : SampleSet) (rest : List Post), s.stepsOn c m rest →
    ((s.car c).state = .parked ∨ (s.car c).state = .awaitPower ∨ (s.car c).state = .held) →
    ∃ t, exec (.controlStep c) s = .next t ∧ (t.car c).state = (s.car c).state ∧ (t.car c).vCmd = 0 ∧
      (∀ r : Fin 4, (t.car c).rails[r].setpoint = 0) ∧ (t.car c).order = (s.car c).order ∧
      (t.car c).reach = ⟨(s.car c).position, (s.car c).effectiveTarget⟩ ∧ t.posts = rest ∧ OtherCarriages s t c ∧
      t.settings = s.settings ∧ t.stations = s.stations ∧ t.arbiter = s.arbiter)

/-- R115 to R118, R125, R126, R163: the speed step of a MOVE that runs toward its target or starts toward it, without
active interlocks and outside the arrival tolerance: the rise is limited by inc, the fall by dec, the speed by its
limit and by the braking curve, whose integer square root is the largest integer whose square does not exceed its
argument. The limit is the order's, the max speed, under CAP and NO_START the wind cap, and for a SEEK the creep
speed. The setpoint of each rail that a control step in MOVING or in the ramp stage leaves: the commanded speed less
the rail's trim against P, for a SEEK and its stop against the mean of the trim rails; halted at 0, bounded by the
trim limit, and reduced to the lowest rated speed of the rail's driven stations. -/
def Obligations.SpeedStepTowardTheTarget : Prop :=
  (∀ n : Nat, n < 4 ^ 32 → isqrt n * isqrt n ≤ n ∧ n < (isqrt n + 1) * (isqrt n + 1)) ∧
  (∀ (k : CarriageConfig) (o : Order) (w : Response) (v : Nat),
    v = (if w.action = .cap ∨ w.action = .noStart
      then min (min o.speedLimit k.maxSpeed) (max k.creepSpeed (k.maxSpeed * w.cap / 100))
      else min o.speedLimit k.maxSpeed) →
    (∀ x, o.task = .move x → speedLimit k o w = v) ∧
    (∀ d x, o.task = .seek d x → speedLimit k o w = min v k.creepSpeed)) ∧
  (∀ (s : State) (c : Fin 6) (m : SampleSet) (rest : List Post) (o : Order) (x p target : Int) (d : Direction)
    (vLim creep brk prev : Nat),
    s.stepsOn c m rest → m.trip = none → (s.car c).state = .moving →
    (s.car c).order = some o → o.task = .move x → m.p = some p → skewTrips (s.cfg c) m = false →
    overtravels (s.cfg c) m = false → s.active c = [] → (s.response c).action ≠ .hold →
    target = s.clampTravel c x → ((s.cfg c).arrivalTolerance : Int) < (target - p).natAbs →
    directionOf (target - p) = some d →
    (directionOf (s.car c).vCmd = some d ∨
      ((s.car c).vCmd = 0 ∧ ((s.car c).lastDirection ≠ some d.opposite ∨ (s.car c).dwellRun = true))) →
    vLim = speedLimit (s.cfg c) o (s.response c) → creep = min (s.cfg c).creepSpeed vLim →
    brk = isqrt (2 * (s.cfg c).deceleration * (target - p).natAbs) → prev = (s.car c).vCmd.natAbs →
    ∃ t, exec (.controlStep c) s = .next t ∧ (t.car c).state = .moving ∧
      (t.car c).vCmd = d.signed (max (min (min vLim (prev + s.inc c)) (max brk creep)) (prev - s.dec c)) ∧
      (t.car c).effectiveTarget = some target ∧ (t.car c).order = some o ∧ OtherCarriages s t c ∧
      t.settings = s.settings ∧ t.stations = s.stations ∧ t.arbiter = s.arbiter) ∧
  (∀ (s : State) (c : Fin 6) (m : SampleSet) (rest : List Post) (seeks : Bool) (trimRails : List (Fin 4))
    (centre : Fin 4 → Option Int) (trim : Fin 4 → Int) (bounded : Fin 4 → Int → Int) (rated : Fin 64 → Nat)
    (limit : Int),
    s.stepsOn c m rest → s.tripFree c m →
    ((∃ o, (s.car c).state = .moving ∧ (s.car c).order = some o ∧
        (seeks = true ↔ ∃ d x, o.task = .seek d x)) ∨
      (∃ p, (s.car c).state = .stopping p .ramp ∧
        (seeks = true ↔ (s.car c).seekStop = true ∨ ∃ o d x, (s.car c).order = some o ∧ o.task = .seek d x))) →
    trimRails = allRails.filter (fun q => decide (q.val < (s.cfg c).railCount) && m.rails[q].referenced &&
      m.rails[q].mean.isSome) →
    (∀ q, centre q = if seeks = false then m.p
      else if q ∈ trimRails ∧ 2 ≤ trimRails.length
        then some (rounded (trimRails.map fun x => m.rails[x].mean.getD 0).sum trimRails.length)
      else none) →
    limit = (s.cfg c).trimLimit →
    (∀ q, trim q = match m.rails[q].mean, centre q with
      | some x, some p => max (-limit) (min limit (rounded ((s.cfg c).trimGain * (x - p)) 1000))
      | _, _ => 0) →
    (∀ q v, bounded q v = if 0 < v then max 0 (min (v + limit) (v - trim q))
      else if v < 0 then min 0 (max (v - limit) (v - trim q)) else 0) →
    (∀ n, rated n = ((s.st n).identity.map Identity.ratedSpeed).getD 0) →
    ∃ t, exec (.controlStep c) s = .next t ∧ ∀ q : Fin 4,
      ((s.cfg c).railCount ≤ q.val → (t.car c).rails[q].setpoint = 0) ∧
      (q.val < (s.cfg c).railCount →
        ((∀ n, s.isStationOf c n = true → (s.st n).state.isDriven = true → (s.stCfg n).rail ≠ q) →
          (t.car c).rails[q].setpoint = bounded q (t.car c).vCmd) ∧
        (∀ n, s.isStationOf c n = true → (s.st n).state.isDriven = true → (s.stCfg n).rail = q →
          (∀ k, s.isStationOf c k = true → (s.st k).state.isDriven = true → (s.stCfg k).rail = q →
            rated n ≤ rated k) →
          (t.car c).rails[q].setpoint = max (-(rated n : Int)) (min (rated n) (bounded q (t.car c).vCmd)))))

/-- R6, R119, R133 to R136, R138: which entries are active, the free interval they leave, and the clamps of an
effective target. The speed step of a MOVE at or below the creep speed that finds itself within the arrival tolerance
of its effective target: it has ARRIVED when that is the order's target, and enters BLOCKED at an interlock limit when
it is not; a pinned carriage enters BLOCKED wherever it stands. That the active entries are listed by rising index is
the model's choice (log entry 49). -/
def Obligations.ArrivalAndBlocking : Prop :=
  (∀ (s : State) (c : Fin 6) (i : Fin 16) (e : Interlock) (reach : Reach), e = s.settings.interlocks[i] →
    reach = (s.car e.carriageB).reach →
    (i ∈ s.active c ↔ e.enabled = true ∧ e.carriageA = c ∧
      (reach.p = none ∨ ∃ p, reach.p = some p ∧
        (e.directionB = .outward → e.thresholdB < max p (reach.target.getD p)) ∧
        (e.directionB = .inward → min p (reach.target.getD p) < e.thresholdB)))) ∧
  (∀ (s : State) (c : Fin 6) (p : Int) (isUpper isLower : Int → Prop),
    isUpper = (fun u => ∃ i ∈ s.active c, s.settings.interlocks[i].directionA = .outward ∧
      u = max s.settings.interlocks[i].limitA p) →
    isLower = (fun l => ∃ i ∈ s.active c, s.settings.interlocks[i].directionA = .inward ∧
      l = min s.settings.interlocks[i].limitA p) →
    (∀ u, (s.freeInterval c p).upper = some u ↔ isUpper u ∧ ∀ v, isUpper v → u ≤ v) ∧
    (∀ l, (s.freeInterval c p).lower = some l ↔ isLower l ∧ ∀ v, isLower v → v ≤ l)) ∧
  (∀ (v : Interval) (x : Int), v.clamp x =
    (match v.lower, v.upper with
      | none, none => x
      | none, some u => min u x
      | some l, none => max l x
      | some l, some u => max l (min u x))) ∧
  (∀ (s : State) (c : Fin 6) (x : Int), s.clampTravel c x =
    if x < (s.cfg c).travelMin then (s.cfg c).travelMin
    else if (s.cfg c).travelMax < x then (s.cfg c).travelMax else x) ∧
  (∀ (s : State) (c : Fin 6) (m : SampleSet) (rest : List Post) (o : Order) (x p target : Int),
    s.stepsOn c m rest → m.trip = none → (s.car c).state = .moving →
    (s.car c).order = some o → o.task = .move x → m.p = some p → skewTrips (s.cfg c) m = false →
    overtravels (s.cfg c) m = false → (s.response c).action ≠ .hold →
    target = s.clampTravel c ((s.freeInterval c p).clamp x) →
    (s.car c).vCmd.natAbs ≤ min (s.cfg c).creepSpeed (speedLimit (s.cfg c) o (s.response c)) →
    ∃ t, exec (.controlStep c) s = .next t ∧ OtherCarriages s t c ∧ t.settings = s.settings ∧
      t.stations = s.stations ∧ t.arbiter = s.arbiter ∧
      ((s.freeInterval c p).clamp target = target → (target - p).natAbs ≤ (s.cfg c).arrivalTolerance → target = x →
        (t.car c).state = .stopping .ending .brake ∧ (t.car c).order = none ∧ (t.car c).vCmd = 0 ∧
        (∀ q : Fin 4, (t.car c).rails[q].setpoint = 0) ∧ (t.car c).effectiveTarget = none ∧
        (t.car c).setTimer = some ((s.cfg c).setTimeout * 1000) ∧ t.link.flag (.ofCarriage c .arrived) = true ∧
        t.link.flag (.ofCarriage c .ended) = true) ∧
      (((s.freeInterval c p).clamp target ≠ target ∨
          ((target - p).natAbs ≤ (s.cfg c).arrivalTolerance ∧ target ≠ x)) →
        (t.car c).state = .blocked ∧ (t.car c).order = some o ∧ (t.car c).vCmd = 0 ∧
        (∀ q : Fin 4, (t.car c).rails[q].setpoint = 0) ∧ (t.car c).effectiveTarget = some target ∧
        (t.car c).activeEntries = s.active c ∧
        (t.car c).blockTimer =
          (if (s.cfg c).blockTimeout = 0 then none else some ((s.cfg c).blockTimeout * 1000000)) ∧
        t.link.flag (.ofCarriage c .blocked) = true))

/-- R97, R98, R102, R104, R108, R113, R188: the brake confirmations of a control step. In RELEASING, with every driven
station of one or more showing its brake released, the step is that of the MOVING carriage it has become; otherwise it
stays. In the brake stage, with every driven station showing its brake set, the carriage leaves STOPPING for PARKED or
HELD, gives back its grant and its stations leave the drive; otherwise it stays. In TRIPPED the brakes are confirmed
when the stations of the set of R188, judged as they stand after the completion that delivered the sample set, show
their brakes set; a driven station lost after the trip has left that set (log entry 38). -/
def Obligations.BrakesAreConfirmedAtTheControlStep : Prop :=
  (∀ (s : State) (c : Fin 6) (m : SampleSet) (rest : List Post), s.stepsOn c m rest → m.trip = none →
    (s.car c).state = .releasing →
    ((∃ n, s.isStationOf c n = true ∧ (s.st n).state.isDriven = true) →
      (∀ n, s.isStationOf c n = true → (s.st n).state.isDriven = true →
        (s.st n).shows Slot.brakeReleased = true) →
      ∃ u, u.stepsOn c m rest ∧ (u.car c).state = .moving ∧ (u.car c).releaseTimer = none ∧
        (u.car c).vCmd = (s.car c).vCmd ∧ (u.car c).order = (s.car c).order ∧ OtherCarriages s u c ∧
        SamePlant s u ∧ u.arbiter = s.arbiter ∧ exec (.controlStep c) s = exec (.controlStep c) u) ∧
    (((∀ n, s.isStationOf c n = true → (s.st n).state.isDriven = false) ∨
        (∃ n, s.isStationOf c n = true ∧ (s.st n).state.isDriven = true ∧
          (s.st n).shows Slot.brakeReleased = false)) → s.tripFree c m →
      ∃ t, exec (.controlStep c) s = .next t ∧ (t.car c).state = .releasing ∧ (t.car c).vCmd = 0 ∧
        (t.car c).releaseTimer = (s.car c).releaseTimer ∧ (t.car c).order = (s.car c).order)) ∧
  (∀ (s : State) (c : Fin 6) (m : SampleSet) (rest : List Post) (p : Purpose), s.stepsOn c m rest → m.trip = none →
    (s.car c).state = .stopping p .brake →
    ((∀ n, s.isStationOf c n = true → (s.st n).state.isDriven = true → (s.st n).shows Slot.brakeSet = true) →
      ∃ t, exec (.controlStep c) s = .next t ∧ (t.car c).setTimer = none ∧ (t.car c).vCmd = 0 ∧
        t.arbiter.grants = (s.arbiter.grants.filter fun g => g.carriage ≠ c) ∧
        (∀ n, s.isStationOf c n = true → (s.st n).state.isDriven = true →
          (t.st n).state = .ready ∨ (t.st n).state = .loading) ∧
        (p = .ending → (t.car c).state = .parked) ∧
        (p = .hold → (s.car c).holds ≠ {} → (t.car c).state = .held ∧ (t.car c).order = none ∧
          (t.car c).holds = (s.car c).holds ∧
          ∀ o notes, (s.car c).order = some o → (s.car c).notes = some notes →
            ∃ x, (t.car c).resume = some x ∧ x.causes = notes.causes ∧ x.position = notes.position ∧
              x.order.tag = o.tag ∧ x.order.speedLimit = o.speedLimit ∧
              (∀ y, o.task = .move y → x.order.task = .move y) ∧
              (∀ d y z, o.task = .seek d y → notes.remaining = some z → x.order.task = .seek d z)) ∧
        (p = .hold → (s.car c).holds = {} → (s.car c).order.isSome = true →
          (t.car c).state = .awaitPower ∨ ((t.car c).state = .held ∧ (t.car c).resumable = true))) ∧
    ((∃ n, s.isStationOf c n = true ∧ (s.st n).state.isDriven = true ∧ (s.st n).shows Slot.brakeSet = false) →
      s.tripFree c m →
      ∃ t, exec (.controlStep c) s = .next t ∧ (t.car c).state = .stopping p .brake ∧
        (t.car c).setTimer = (s.car c).setTimer ∧ t.arbiter = s.arbiter)) ∧
  (∀ (s : State) (c : Fin 6) (m : SampleSet) (rest : List Post), s.stepsOn c m rest →
    (s.car c).state = .tripped false →
    ∃ t, exec (.controlStep c) s = .next t ∧ (t.car c).tripCause = (s.car c).tripCause ∧ (t.car c).vCmd = 0 ∧
      (m.tripBraked = true → (t.car c).state = .tripped true ∧ (t.car c).setTimer = none ∧
        (t.car c).brakesUnconfirmed = false) ∧
      (m.tripBraked = false → (t.car c).state = .tripped false ∧ (t.car c).setTimer = (s.car c).setTimer ∧
        (t.car c).brakesUnconfirmed = (s.car c).brakesUnconfirmed)) ∧
  (∀ (s : State) (r : RingId) (bytes : List Byte) (signals : Signals) (f : Round), s.awaitsCopy r f bytes →
    ∃ t, exec (.copyArrival r .two false bytes signals) s = .next t ∧ ∀ c, (s.cfg c).ring = r →
      (∀ n, s.isStationOf c n = true → (s.st n).state.isDriven = true → (s.car c).state.isTripped = true →
        (t.st n).state = .lost → (t.st n).lostInTrip = true) ∧
      ∃ before later m, t.posts = before ++ Post.sample c m :: later ∧ (∀ x, Post.sample c x ∉ later) ∧
        (m.tripBraked = true ↔ ∀ n, s.isStationOf c n = true → (t.st n).lostInTrip = false →
          ((t.st n).state.isDriven = true ∨ (t.st n).state.isFault = true) →
          (t.st n).shows Slot.brakeSet = true))

/-- R95, R99, R121, R123: in the ramp stage of STOPPING the speed falls by dec; once it is 0 the stations are looked
at, and the brake stage begins when the largest speed lies within the standstill band, or no station is driven. A SEEK
in MOVING that is not at its bound ends REFERENCED when every rail carries its referenced mark, else NOT_FOUND when
the mean travelled distance has reached its distance, and else goes on. -/
def Obligations.RampStageAndSeekEnd : Prop :=
  (∀ (s : State) (c : Fin 6) (m : SampleSet) (rest : List Post) (p : Purpose) (n : Nat) (new : Int) (still : Prop),
    s.stepsOn c m rest → s.tripFree c m → (s.car c).state = .stopping p .ramp →
    n = (s.car c).vCmd.natAbs - s.dec c → new = (if 0 ≤ (s.car c).vCmd then (n : Int) else -(n : Int)) →
    still = ((∀ k, s.isStationOf c k = true → (s.st k).state.isDriven = false) ∨
      (∃ v, m.largestSpeed = some v ∧ v ≤ (s.cfg c).standstillBand) ∨
      (m.largestSpeed = none ∧ ∀ k x, s.isStationOf c k = true → (s.st k).state.isDriven = true →
        (s.st k).reported = some x → x.slot.speed.natAbs ≤ (s.cfg c).standstillBand)) →
    ∃ t, exec (.controlStep c) s = .next t ∧ (t.car c).vCmd = new ∧ (t.car c).order = (s.car c).order ∧
      (new = 0 → still → (t.car c).state = .stopping p .brake ∧
        (t.car c).setTimer = some ((s.cfg c).setTimeout * 1000)) ∧
      ((new ≠ 0 ∨ ¬ still) → (t.car c).state = .stopping p .ramp) ∧
      (new = 0 → (s.car c).vCmd ≠ 0 →
        ((s.cfg c).reversalDwell = 0 → (t.car c).dwellRun = true) ∧
        ((s.cfg c).reversalDwell ≠ 0 → (t.car c).dwellRun = false ∧
          (t.car c).dwellTimer = some ((s.cfg c).reversalDwell * 1000))) ∧
      OtherCarriages s t c ∧ t.settings = s.settings ∧ t.stations = s.stations ∧ t.arbiter = s.arbiter) ∧
  (∀ (s : State) (c : Fin 6) (m : SampleSet) (rest : List Post) (o : Order) (d : Direction) (distance : Nat),
    s.stepsOn c m rest → s.tripFree c m → (s.car c).state = .moving → (s.car c).order = some o →
    o.task = .seek d distance → s.seekAtBound c d m.p = false →
    ∃ t, exec (.controlStep c) s = .next t ∧ OtherCarriages s t c ∧ t.settings = s.settings ∧
      t.stations = s.stations ∧ t.arbiter = s.arbiter ∧
      (∀ outcome : MoveOutcome,
        ((outcome = .referenced ∧ ∀ q : Fin 4, q.val < (s.cfg c).railCount → m.rails[q].referenced = true) ∨
          (outcome = .notFound ∧ (∃ q : Fin 4, q.val < (s.cfg c).railCount ∧ m.rails[q].referenced = false) ∧
            ∃ x, m.travelled = some x ∧ distance ≤ x)) →
        (t.car c).state = .stopping .ending .ramp ∧ (t.car c).order = none ∧ (t.car c).seekStop = true ∧
        t.link.flag (.ofCarriage c .ended) = true ∧
        ∃ (l : Link) (news : CarriageNews), news.reason = .seekEnd ∧
          t.link = ((l.post s.settings.notices (.moveEnd c o.tag outcome none (s.car c).position)).post
            s.settings.notices (.carriageState news)).choose) ∧
      ((∃ q : Fin 4, q.val < (s.cfg c).railCount ∧ m.rails[q].referenced = false) →
        (∀ x, m.travelled = some x → x < distance) → (t.car c).state = .moving ∧ (t.car c).order = some o))

/-- R115, R117 to R121, R135 to R139: when a SEEK is at its bound. A BLOCKED carriage leaves at a control step exactly
when R139 says: a MOVE not pinned whose target is its order's or lies beyond the tolerance, a SEEK not at its bound; a
MOVE that leaves arrives within the tolerance, waits out its dwell, or starts toward its target. In MOVING a speed
away from the target, or from a SEEK's direction, falls by dec; at 0 against the last direction the carriage waits
while the dwell has not run; a MOVE without P slows by dec. -/
def Obligations.UnblockAndReversal : Prop :=
  (∀ (s : State) (c : Fin 6) (d : Direction),
    (∀ p, s.seekAtBound c d (some p) = true ↔ ∃ bound : Int,
      (if d = .outward then (s.freeInterval c p).upper else (s.freeInterval c p).lower) = some bound ∧
      (bound - p).natAbs ≤ (s.cfg c).arrivalTolerance) ∧
    (s.seekAtBound c d none = true ↔ ∃ i ∈ s.active c, s.settings.interlocks[i].directionA = d)) ∧
  (∀ (s : State) (c : Fin 6) (m : SampleSet) (rest : List Post) (o : Order), s.stepsOn c m rest → s.tripFree c m →
    (s.car c).state = .blocked → (s.car c).order = some o → (s.car c).vCmd = 0 →
    ∃ t, exec (.controlStep c) s = .next t ∧ OtherCarriages s t c ∧ t.settings = s.settings ∧
      t.stations = s.stations ∧ t.arbiter = s.arbiter ∧
      (∀ (x p target : Int) (far leaves : Prop), o.task = .move x → m.p = some p →
        target = s.clampTravel c ((s.freeInterval c p).clamp x) →
        far = ((s.cfg c).arrivalTolerance < (target - p).natAbs) →
        leaves = ((s.freeInterval c p).clamp target = target ∧ (target = x ∨ far)) →
        (¬ leaves → (t.car c).state = .blocked ∧ (t.car c).vCmd = 0 ∧ (t.car c).order = some o ∧
          (t.car c).blockTimer = (s.car c).blockTimer ∧ (t.car c).effectiveTarget = some target) ∧
        (leaves → (t.car c).blockTimer = none ∧
          ((s.response c).action = .hold → (t.car c).state = .moving ∧ (t.car c).vCmd = 0) ∧
          ((s.response c).action ≠ .hold → ¬ far → (t.car c).state = .stopping .ending .brake ∧
            (t.car c).order = none ∧ t.link.flag (.ofCarriage c .arrived) = true) ∧
          (∀ (d : Direction) (vLim : Nat), (s.response c).action ≠ .hold → far → directionOf (target - p) = some d →
            vLim = speedLimit (s.cfg c) o (s.response c) → (t.car c).state = .moving ∧ (t.car c).order = some o ∧
            (t.car c).vCmd =
              if (s.car c).lastDirection = some d.opposite ∧ (s.car c).dwellRun = false then 0
              else d.signed (min (min vLim (s.inc c))
                (max (isqrt (2 * (s.cfg c).deceleration * (target - p).natAbs))
                  (min (s.cfg c).creepSpeed vLim)))))) ∧
      (∀ x, o.task = .move x → m.p = none → (t.car c).state = .blocked ∧ (t.car c).vCmd = 0 ∧
        (t.car c).effectiveTarget = (s.car c).effectiveTarget) ∧
      (∀ d k, o.task = .seek d k →
        (s.seekAtBound c d m.p = true → (t.car c).state = .blocked ∧ (t.car c).vCmd = 0 ∧
          (t.car c).order = some o ∧ (t.car c).blockTimer = (s.car c).blockTimer) ∧
        (s.seekAtBound c d m.p = false → (t.car c).blockTimer = none ∧
          ((t.car c).state = .moving ∨ (t.car c).state = .stopping .ending .ramp)))) ∧
  (∀ (s : State) (c : Fin 6) (m : SampleSet) (rest : List Post) (o : Order) (n : Nat) (slower : Int),
    s.stepsOn c m rest → s.tripFree c m → (s.car c).state = .moving → (s.car c).order = some o →
    (s.response c).action ≠ .hold → n = (s.car c).vCmd.natAbs - s.dec c →
    slower = (if 0 ≤ (s.car c).vCmd then (n : Int) else -(n : Int)) →
    ∃ t, exec (.controlStep c) s = .next t ∧ OtherCarriages s t c ∧
      (∀ d : Direction,
        ((∃ k, o.task = .seek d k) ∨ ∃ x p target, o.task = .move x ∧ m.p = some p ∧
          target = s.clampTravel c ((s.freeInterval c p).clamp x) ∧ (s.freeInterval c p).clamp target = target ∧
          (s.cfg c).arrivalTolerance < (target - p).natAbs ∧ directionOf (target - p) = some d) →
        (directionOf (s.car c).vCmd = some d.opposite → (t.car c).vCmd = slower ∧
          (slower = 0 →
            ((s.cfg c).reversalDwell = 0 → (t.car c).dwellRun = true) ∧
            ((s.cfg c).reversalDwell ≠ 0 → (t.car c).dwellRun = false ∧
              (t.car c).dwellTimer = some ((s.cfg c).reversalDwell * 1000)))) ∧
        ((s.car c).vCmd = 0 → (s.car c).lastDirection = some d.opposite → (s.car c).dwellRun = false →
          (t.car c).vCmd = 0 ∧ (t.car c).dwellRun = false ∧ (t.car c).dwellTimer = (s.car c).dwellTimer) ∧
        ((∃ x, o.task = .move x) → (directionOf (s.car c).vCmd = some d.opposite ∨ ((s.car c).vCmd = 0 ∧
            (s.car c).lastDirection = some d.opposite ∧ (s.car c).dwellRun = false)) →
          (t.car c).state = .moving ∧ (t.car c).order = some o ∧
          ((t.car c).vCmd = 0 → (t.car c).phase = some .dwell))) ∧
      (∀ x, o.task = .move x → m.p = none → (t.car c).vCmd = slower ∧ (t.car c).state = .moving ∧
        (t.car c).order = some o ∧ (t.car c).effectiveTarget = (s.car c).effectiveTarget))

/-- R106, R107, R110, R150: a trip cause trips a carriage in RELEASING, MOVING, BLOCKED or STOPPING, and ESTOP also
one in AWAIT_POWER: speeds 0, no order, the cause, the brake set timer, and neither grant nor place in the queue; in
any other state it changes nothing of the carriage. A RING_DOWN cause waits while the sample set posted before it does
(R53). -/
def Obligations.TripCausesTripCarriagesInMotion : Prop :=
  (∀ (c : Fin 6) (p : Post) (posts : List Post), sampleBefore c p posts = true ↔
    ∃ m, Post.sample c m ∈ posts.takeWhile fun q => decide (q ≠ p)) ∧
  (∀ (s : State) (c : Fin 6), s.power = .running → sampleBefore c (.trip c .ringDown) s.posts = true →
    exec (.tripCause c .ringDown) s = .next s.settle) ∧
  (∀ (s : State) (c : Fin 6) (cause : TripCause), s.power = .running →
    (cause = .ringDown → sampleBefore c (.trip c .ringDown) s.posts = false) →
    (((s.car c).state.inMotion = true ∨ (cause = .estop ∧ (s.car c).state = .awaitPower)) →
      ∃ t, exec (.tripCause c cause) s = .next t ∧ (t.car c).state = .tripped false ∧
        (t.car c).tripCause = some cause ∧ (t.car c).order = none ∧ (t.car c).vCmd = 0 ∧
        (∀ r : Fin 4, (t.car c).rails[r].setpoint = 0) ∧
        (t.car c).setTimer = some ((s.cfg c).setTimeout * 1000) ∧ (t.car c).dwellRun = true ∧
        ((s.car c).state.inMotion = true → t.arbiter.grants = s.arbiter.grants.filter fun g => g.carriage ≠ c) ∧
        ((s.car c).state = .awaitPower → t.arbiter.queue = s.arbiter.queue.filter fun w => w.carriage ≠ c) ∧
        t.link.flag (.ofCarriage c .tripped) = true ∧ OtherCarriages s t c ∧ SamePlant s t) ∧
    ((s.car c).state.inMotion = false → (cause = .estop → (s.car c).state ≠ .awaitPower) →
      ∃ t, exec (.tripCause c cause) s = .next t ∧ t.carriages = s.carriages ∧ t.arbiter = s.arbiter ∧ SamePlant s t))

/-- R101, R102: a hold cause begins a hold in RELEASING, MOVING or BLOCKED, takes a waiting carriage to HELD with its
order in the resume record, joins the set of a stopping or HELD carriage, and does nothing in the other states. The
position noted is the record's P (log entry 27). -/
def Obligations.HoldCausesAreTakenByState : Prop :=
  ∀ (s : State) (c : Fin 6) (cause : HoldCause), s.power = .running →
    ∃ t, exec (.holdCause c cause) s = .next t ∧ OtherCarriages s t c ∧ SamePlant s t ∧
      t.arbiter.grants = s.arbiter.grants ∧
      (((s.car c).state = .releasing ∨ (s.car c).state = .moving ∨ (s.car c).state = .blocked) →
        (t.car c).state = .stopping .hold .ramp ∧ (t.car c).holds.has cause = true ∧
        (t.car c).order = (s.car c).order ∧ (t.car c).vCmd = (s.car c).vCmd ∧
        ∃ notes, (t.car c).notes = some notes ∧ notes.causes.has cause = true ∧
          notes.position = (s.car c).position) ∧
      (∀ o, (s.car c).state = .awaitPower → (s.car c).order = some o →
        (t.car c).state = .held ∧ (t.car c).holds.has cause = true ∧ (t.car c).order = none ∧
        t.arbiter.queue = s.arbiter.queue.filter (fun w => w.carriage ≠ c) ∧
        t.link.flag (.ofCarriage c .held) = true ∧
        ∃ m, (t.car c).resume = some m ∧ m.order = o ∧ m.causes.has cause = true ∧
          m.position = (s.car c).position) ∧
      (((s.car c).state = .held ∨ ∃ stage, (s.car c).state = .stopping .hold stage) →
        (t.car c).state = (s.car c).state ∧ (t.car c).holds = (s.car c).holds.insert cause) ∧
      (((s.car c).state = .parked ∨ (s.car c).state.isTripped = true ∨
          ∃ stage, (s.car c).state = .stopping .ending stage) → t.car c = s.car c)

/-- R103, R104, R105: the clearing of a cause removes it from the set; STATION_LOSS only once no station of the
carriage is LOST. A HELD carriage whose set empties resumes by itself, exactly when the settings of its causes, the
checks of R105 and no pending RESTART allow it, or is marked resumable, and never by itself after LINK. -/
def Obligations.ClearingACause : Prop :=
  (∀ (s : State) (c : Fin 6) (m : ResumeRecord), s.mayAutoResume c m = true ↔
    m.causes.link = false ∧ (m.causes.wind = true → (s.cfg c).resumeWind = true) ∧
    (m.causes.stationLoss = true → (s.cfg c).resumeLoss = true) ∧ s.ringOut c = false ∧ s.lines.estop = false ∧
    s.railsUsable c m.order.task .ready = true ∧ s.windAllows c m.order.task = true ∧
    s.need c ≤ s.settings.budget ∧ s.link.restartPending = false) ∧
  (∀ (s : State) (c : Fin 6) (cause : HoldCause), s.power = .running →
    ∃ t, exec (.holdCauseCleared c cause) s = .next t ∧ OtherCarriages s t c ∧ SamePlant s t ∧
      (((s.car c).holds.has cause = false ∨
          (cause = .stationLoss ∧ ∃ n, s.isStationOf c n = true ∧ (s.st n).state = .lost)) →
        t.car c = s.car c) ∧
      ((s.car c).holds.has cause = true →
        (cause = .stationLoss → ∀ n, s.isStationOf c n = true → (s.st n).state ≠ .lost) →
        (((s.car c).state ≠ .held ∨ (s.car c).holds.erase cause ≠ {}) →
          (t.car c).state = (s.car c).state ∧ (t.car c).holds = (s.car c).holds.erase cause) ∧
        (∀ m, (s.car c).state = .held → (s.car c).holds.erase cause = {} → (s.car c).resume = some m →
          (s.mayAutoResume c m = true → (t.car c).state = .awaitPower ∧ (t.car c).order = some m.order ∧
            (t.car c).resume = none ∧ t.arbiter.queue = insertWaiting (s.newcomer c) s.arbiter.queue) ∧
          (s.mayAutoResume c m = false → (t.car c).state = .held ∧ (t.car c).resumable = true ∧
            (t.car c).resume = some m ∧ t.link.flag (.ofCarriage c .resumable) = true) ∧
          (m.causes.link = true → (t.car c).state = .held))))

/-- R97, R98, R108, R121, R140: the four timers of an engine expire. -/
def Obligations.EngineTimersExpire : Prop :=
  ∀ (s : State) (c : Fin 6) (us : Nat), s.power = .running →
    ((s.car c).releaseTimer = some us → (s.car c).state = .releasing →
      ∃ t, exec (.brakeReleaseTimeout c) s = .next t ∧ (t.car c).state = .tripped false ∧
        (t.car c).tripCause = some .brakeTimeout ∧ OtherCarriages s t c ∧ SamePlant s t) ∧
    (∀ p stage, (s.car c).setTimer = some us → (s.car c).state = .stopping p stage →
      ∃ t, exec (.brakeSetTimeout c) s = .next t ∧ (t.car c).state = .tripped false ∧
        (t.car c).tripCause = some .brakeTimeout ∧ OtherCarriages s t c ∧ SamePlant s t) ∧
    (∀ b, (s.car c).setTimer = some us → (s.car c).state = .tripped b →
      ∃ t, exec (.brakeSetTimeout c) s = .next t ∧ (t.car c).state = .tripped b ∧
        (t.car c).brakesUnconfirmed = true ∧ (t.car c).setTimer = none ∧
        t.link.flag (.ofCarriage c .brakesUnconfirmed) = true ∧ OtherCarriages s t c ∧ SamePlant s t) ∧
    ((s.car c).dwellTimer = some us →
      ∃ t, exec (.dwellTimerExpiry c) s = .next t ∧
        t.car c = { s.car c with dwellTimer := none, dwellRun := true } ∧ OtherCarriages s t c ∧ SamePlant s t ∧
        t.arbiter = s.arbiter) ∧
    ((s.car c).blockTimer = some us → (s.car c).state = .blocked →
      ∃ t, exec (.blockTimeout c) s = .next t ∧ (t.car c).state = .stopping .ending .ramp ∧
        (t.car c).order = none ∧ ((s.car c).order.isSome = true → t.link.flag (.ofCarriage c .ended) = true) ∧
        OtherCarriages s t c ∧ SamePlant s t ∧ t.arbiter = s.arbiter)

/-! ## The Power Arbiter -/

/-- R146, R147, R148, R26: an attempt grants the head while its need fits the free budget, and only from the head: the
carriages granted leave the queue in its order, their needs join the sum, each enters RELEASING with its READY
stations driving, and the next head does not fit. A head that does not fit is not overtaken. A waiting carriage's
grant timer expires: it leaves the queue, its order ends, it enters PARKED, and a grant attempt follows; the granted
sum does not change. That the grants join the tail of the grant list in the queue's order is the model's choice (log
entry 42): no rule orders that list. -/
def Obligations.GrantAttemptAndTimeout : Prop :=
  (∀ (s : State) (w : Waiting) (rest : List Waiting), s.power = .running → s.arbiter.queue = w :: rest →
    (s.arbiter.grantedSum + w.need ≤ s.settings.budget →
      ∃ t k, exec .grantAttempt s = .next t ∧ 1 ≤ k ∧ k ≤ s.arbiter.queue.length ∧
        t.arbiter = { s.arbiter with
          grantedSum := s.arbiter.grantedSum + ((s.arbiter.queue.take k).map Waiting.need).sum,
          grants := s.arbiter.grants ++ (s.arbiter.queue.take k).map fun v => ⟨v.carriage, v.need⟩,
          queue := s.arbiter.queue.drop k } ∧
        t.arbiter.grantedSum ≤ s.settings.budget ∧
        (∀ v vs, t.arbiter.queue = v :: vs → s.settings.budget < t.arbiter.grantedSum + v.need) ∧
        (∀ v ∈ s.arbiter.queue.take k, (t.car v.carriage).state = .releasing ∧
          (t.car v.carriage).releaseTimer = some ((s.cfg v.carriage).releaseTimeout * 1000) ∧
          (t.car v.carriage).vCmd = 0 ∧
          ∀ n, s.isStationOf v.carriage n = true → (s.st n).state = .ready → (t.st n).state = .driving) ∧
        (∀ c, (∀ v ∈ s.arbiter.queue.take k, v.carriage ≠ c) → t.car c = s.car c) ∧
        t.link.flag (.ofModule .granted) = true ∧ t.settings = s.settings) ∧
    (s.settings.budget < s.arbiter.grantedSum + w.need →
      ∃ t, exec .grantAttempt s = .next t ∧ t.arbiter = s.arbiter ∧ t.carriages = s.carriages ∧
        t.stations = s.stations ∧ SamePlant s t)) ∧
  (∀ s : State, s.power = .running → s.arbiter.queue = [] →
    ∃ t, exec .grantAttempt s = .next t ∧ t.arbiter = s.arbiter ∧ t.carriages = s.carriages ∧ SamePlant s t) ∧
  (∀ (s : State) (c : Fin 6) (w : Waiting), s.power = .running → w ∈ s.arbiter.queue → w.carriage = c →
    ∃ t, exec (.grantTimeout c) s = .next t ∧ (t.car c).state = .parked ∧ (t.car c).order = none ∧
      t.arbiter = { s.arbiter with queue := s.arbiter.queue.filter fun v => v.carriage ≠ c } ∧
      t.posts = s.posts ++ [.grantAttempt] ∧ t.link.flag (.ofModule .timedOut) = true ∧
      ((s.car c).order.isSome = true → t.link.flag (.ofCarriage c .ended) = true) ∧ OtherCarriages s t c ∧
      SamePlant s t)

/-! ## The Weather Monitor -/

/-- R155, R156, R157: a pulse on an enabled anemometer is counted, and on a disabled one it is not. At an expiry each
enabled anemometer's count becomes its newest window entry, the window keeps its newest 60, the counter restarts, and
its mark is VALID when its gust is present and INVALID when it is not; a disabled one is left. The gust is the largest
valid value of the newest 3 entries, the mean the floored mean of 30 valid values or more. -/
def Obligations.PulsesBecomeWindowEntries : Prop :=
  (∀ (x : List Sample) (g : Nat), windowGust x = some g ↔
    (∃ e ∈ x.drop (x.length - 3), e.valid = true ∧ e.value = g) ∧
    (∀ e ∈ x.drop (x.length - 3), e.valid = true → e.value ≤ g)) ∧
  (∀ (x : List Sample) (values : List Nat),
    values = (x.filter fun e => e.valid).map (fun e => e.value) →
    windowMean x = if values.length < 30 then none else some (values.sum / values.length)) ∧
  (∀ (s : State) (w : Fin 4), s.power = .running →
    ∃ t, exec (.anemometerPulse w) s = .next t ∧ t.carriages = s.carriages ∧ t.settings = s.settings ∧
      t.weather.level = s.weather.level ∧
      (∀ v : Fin 4, t.weather.anemometers[v] =
        if v = w ∧ s.settings.site.enabled[w] = true
        then { s.weather.anemometers[v] with count := s.weather.anemometers[v].count + 1 }
        else s.weather.anemometers[v])) ∧
  (∀ s : State, s.power = .running →
    ∃ t, exec .weatherTimerExpiry s = .next t ∧
      (∀ w : Fin 4, s.settings.site.enabled[w] = true →
        (∃ old, s.weather.anemometers[w].window = old ++ (t.weather.anemometers[w].window).dropLast ∧
          (old = [] ∨ (t.weather.anemometers[w].window).length = 60)) ∧
        (t.weather.anemometers[w].window).getLast? = some
          ⟨min s.weather.anemometers[w].count 65535 * s.settings.site.gain[w] / 256,
            decide (min s.weather.anemometers[w].count 65535 * s.settings.site.gain[w] / 256 ≤ 750)⟩ ∧
        (t.weather.anemometers[w].window).length ≤ 60 ∧ t.weather.anemometers[w].count = 0 ∧
        (t.weather.anemometers[w].mark = .valid ↔
          (windowGust t.weather.anemometers[w].window).isSome = true) ∧
        (t.weather.anemometers[w].mark = .invalid ↔ windowGust t.weather.anemometers[w].window = none)) ∧
      (∀ w : Fin 4, s.settings.site.enabled[w] = false → t.weather.anemometers[w] = s.weather.anemometers[w]) ∧
      t.weather.weatherTimer = 1000000 ∧ t.carriages = s.carriages ∧ t.settings = s.settings)

/-- R157, R158: the site gust is the largest of the enabled anemometers' present gusts, the site mean the largest of
the present means of those whose gust is present, and the target is the highest level one of whose thresholds is met,
raised to the blind level without a site gust. -/
def Obligations.SiteValuesAndTarget : Prop :=
  ∀ s : State, s.power = .running →
    ∃ t, exec .weatherTimerExpiry s = .next t ∧
      (∀ g, t.weather.gust = some g ↔
        (∃ w : Fin 4, s.settings.site.enabled[w] = true ∧
          windowGust t.weather.anemometers[w].window = some g) ∧
        (∀ (w : Fin 4) (x : Nat), s.settings.site.enabled[w] = true →
          windowGust t.weather.anemometers[w].window = some x → x ≤ g)) ∧
      (∀ g, t.weather.mean = some g ↔
        (∃ w : Fin 4, s.settings.site.enabled[w] = true ∧
          windowGust t.weather.anemometers[w].window ≠ none ∧
          windowMean t.weather.anemometers[w].window = some g) ∧
        (∀ (w : Fin 4) (x : Nat), s.settings.site.enabled[w] = true →
          windowGust t.weather.anemometers[w].window ≠ none →
          windowMean t.weather.anemometers[w].window = some x → x ≤ g)) ∧
      (∃ wind target : Fin 4, t.weather.target = some target ∧
        (∀ l : Fin 3, (∃ g, t.weather.gust = some g ∧ s.settings.site.gust[l] ≤ g) ∨
            (∃ g, t.weather.mean = some g ∧ s.settings.site.mean[l] ≤ g) → l.val + 1 ≤ wind.val) ∧
        (∀ l : Fin 3, wind.val = l.val + 1 → (∃ g, t.weather.gust = some g ∧ s.settings.site.gust[l] ≤ g) ∨
            (∃ g, t.weather.mean = some g ∧ s.settings.site.mean[l] ≤ g)) ∧
        target.val = if t.weather.gust = none then max wind.val s.settings.site.blindLevel.val else wind.val)

/-- R159 to R163: a carriage's present response is its action and cap at the site level, and NONE at CALM. The level
rises to the target at once; in the start window it does not fall; at the window's close it is set to the target;
after it the descent timer runs exactly while the descent condition holds: the target is lower, and gust and mean lie
below the thresholds of the present level less the hysteresis, or are absent. At the descent timer's expiry the level
falls by one, LEVEL_DOWN is set, the timer runs again exactly while the target is lower still, and each engine is sent
WIND or its clearing by its action at the new level. -/
def Obligations.LevelFollowsTheTarget : Prop :=
  (∀ (s : State) (c : Fin 6), (s.weather.level = 0 → (s.response c).action = .none) ∧
    ∀ l : Fin 3, s.weather.level.val = l.val + 1 → s.response c = s.settings.responses[c][l]) ∧
  (∀ (s : State) (target : Fin 4), s.descends target = true ↔ target < s.weather.level ∧
    ∀ l : Fin 3, s.weather.level.val = l.val + 1 →
      (∀ g, s.weather.gust = some g → g < s.settings.site.gust[l] - s.settings.site.hysteresis) ∧
      (∀ g, s.weather.mean = some g → g < s.settings.site.mean[l] - s.settings.site.hysteresis)) ∧
  (∀ s : State, s.power = .running →
    ∃ t target, exec .weatherTimerExpiry s = .next t ∧ t.weather.target = some target ∧
      (s.weather.level < target → t.weather.level = target ∧ t.weather.descentTimer = none ∧
        t.link.flag (.ofModule .levelUp) = true) ∧
      (∀ n, s.weather.startWindow = some n → 2 ≤ n →
        t.weather.startWindow = some (n - 1) ∧ s.weather.level ≤ t.weather.level ∧
        (target ≤ s.weather.level →
          t.weather.level = s.weather.level ∧ t.weather.descentTimer = s.weather.descentTimer)) ∧
      (∀ n, s.weather.startWindow = some n → n ≤ 1 →
        t.weather.startWindow = none ∧ t.weather.level = target ∧ t.weather.descentTimer = none) ∧
      (s.weather.startWindow = none → target ≤ s.weather.level →
        t.weather.startWindow = none ∧ t.weather.level = s.weather.level ∧
        (t.descends target = false → t.weather.descentTimer = none) ∧
        (t.descends target = true → s.weather.descentTimer = none →
          t.weather.descentTimer = some (s.settings.site.descentDwell * 1000000)) ∧
        (t.descends target = true → s.weather.descentTimer.isSome = true →
          t.weather.descentTimer = s.weather.descentTimer))) ∧
  (∀ (s : State) (us : Nat) (target : Fin 4), s.power = .running → s.weather.descentTimer = some us →
    s.weather.target = some target → 0 < s.weather.level →
    ∃ t, exec .descent s = .next t ∧ t.weather.level.val + 1 = s.weather.level.val ∧
      t.link.flag (.ofModule .levelDown) = true ∧
      t.weather.descentTimer =
        (if target < t.weather.level then some (s.settings.site.descentDwell * 1000000) else none) ∧
      t.posts = s.posts ++ (allCarriages.map fun c =>
        if (t.response c).action = .hold then Post.hold c .wind else Post.cleared c .wind) ∧
      t.carriages = s.carriages ∧ t.settings = s.settings)

/-! ## Invariants that every step keeps -/

/-- R145, R146, R150: grants and the grant queue match the carriages' states, and the sum of the needs granted never
exceeds the budget. -/
def Obligations.GrantsMatchStatesAtEveryStep : Prop :=
  ∀ s t : State, PowerSound s → step s = .next t → PowerSound t

/-- R61, R170, R179: the answers outstanding, the notice queues and the service queues stay within 8, 16, 48 and 16.
-/
def Obligations.QueuesStayBounded : Prop :=
  (∀ s t : State, LinkBounded s → step s = .next t → LinkBounded t) ∧
  (∀ s t : State, ServiceBounded s → step s = .next t → ServiceBounded t)

/-- R14, R99, R102: orders, resume records, trip causes and phases stay with the states that have them, while the
grant queue holds waiting carriages only (the invariant of GrantsMatchStatesAtEveryStep). -/
def Obligations.RecordsStaySound : Prop :=
  ∀ s t : State, PowerSound s → RecordsSound s → step s = .next t → RecordsSound t

/-- R114, R115, R125: the commanded speed stays 0 outside MOVING and the ramp stage, and within the max speed; every
rail setpoint is zero or of its sign, and exceeds it by the trim limit at most. -/
def Obligations.SpeedsStayWithinTheirLimits : Prop :=
  ∀ s t : State, SpeedsSound s → step s = .next t → SpeedsSound t

/-- R185, R187: READY and MOTION stay as the lines and the carriages' states require. -/
def Obligations.OutputsFollowTheState : Prop :=
  ∀ s t : State, OutputsSound s → step s = .next t → OutputsSound t
end

