-- ==== Sys2Proof/Laws/State.lean ====
section
/-! SUPPORT. What each elementary update of the state leaves of each field and record: one lemma per field and update. -/

namespace Sys2Proof.Machine

/-! ## A change of one carriage's record -/

@[simp] theorem State.modCar_pending (s : State) (c : Fin 6) (f : Carriage → Carriage) : (s.modCar c f).pending = s.pending := rfl
@[simp] theorem State.modCar_power (s : State) (c : Fin 6) (f : Carriage → Carriage) : (s.modCar c f).power = s.power := rfl
@[simp] theorem State.modCar_settings (s : State) (c : Fin 6) (f : Carriage → Carriage) : (s.modCar c f).settings = s.settings := rfl
@[simp] theorem State.modCar_stations (s : State) (c : Fin 6) (f : Carriage → Carriage) : (s.modCar c f).stations = s.stations := rfl
@[simp] theorem State.modCar_ringA (s : State) (c : Fin 6) (f : Carriage → Carriage) : (s.modCar c f).ringA = s.ringA := rfl
@[simp] theorem State.modCar_ringB (s : State) (c : Fin 6) (f : Carriage → Carriage) : (s.modCar c f).ringB = s.ringB := rfl
@[simp] theorem State.modCar_arbiter (s : State) (c : Fin 6) (f : Carriage → Carriage) : (s.modCar c f).arbiter = s.arbiter := rfl
@[simp] theorem State.modCar_weather (s : State) (c : Fin 6) (f : Carriage → Carriage) : (s.modCar c f).weather = s.weather := rfl
@[simp] theorem State.modCar_link (s : State) (c : Fin 6) (f : Carriage → Carriage) : (s.modCar c f).link = s.link := rfl
@[simp] theorem State.modCar_store (s : State) (c : Fin 6) (f : Carriage → Carriage) : (s.modCar c f).store = s.store := rfl
@[simp] theorem State.modCar_lines (s : State) (c : Fin 6) (f : Carriage → Carriage) : (s.modCar c f).lines = s.lines := rfl
@[simp] theorem State.modCar_baud (s : State) (c : Fin 6) (f : Carriage → Carriage) : (s.modCar c f).baud = s.baud := rfl
@[simp] theorem State.modCar_ready (s : State) (c : Fin 6) (f : Carriage → Carriage) : (s.modCar c f).ready = s.ready := rfl
@[simp] theorem State.modCar_motion (s : State) (c : Fin 6) (f : Carriage → Carriage) : (s.modCar c f).motion = s.motion := rfl
@[simp] theorem State.modCar_fieldTime (s : State) (c : Fin 6) (f : Carriage → Carriage) : (s.modCar c f).fieldTime = s.fieldTime := rfl
@[simp] theorem State.modCar_posts (s : State) (c : Fin 6) (f : Carriage → Carriage) : (s.modCar c f).posts = s.posts := rfl
@[simp] theorem State.modCar_freeCount (s : State) (c : Fin 6) (f : Carriage → Carriage) : (s.modCar c f).freeCount = s.freeCount := rfl

@[simp] theorem State.modCar_cfg (s : State) (c : Fin 6) (f : Carriage → Carriage) (d : Fin 6) : (s.modCar c f).cfg d = s.cfg d := rfl
@[simp] theorem State.modCar_st (s : State) (c : Fin 6) (f : Carriage → Carriage) (m : Fin 64) : (s.modCar c f).st m = s.st m := rfl
@[simp] theorem State.modCar_stCfg (s : State) (c : Fin 6) (f : Carriage → Carriage) (m : Fin 64) : (s.modCar c f).stCfg m = s.stCfg m := rfl
@[simp] theorem State.modCar_home (s : State) (c : Fin 6) (f : Carriage → Carriage) (m : Fin 64) : (s.modCar c f).home m = s.home m := rfl
@[simp] theorem State.modCar_ringCfg (s : State) (c : Fin 6) (f : Carriage → Carriage) (q : RingId) : (s.modCar c f).ringCfg q = s.ringCfg q := rfl
@[simp] theorem State.modCar_response (s : State) (c : Fin 6) (f : Carriage → Carriage) (d : Fin 6) : (s.modCar c f).response d = s.response d := rfl
@[simp] theorem State.modCar_ring (s : State) (c : Fin 6) (f : Carriage → Carriage) (q : RingId) : (s.modCar c f).ring q = s.ring q := by cases q <;> rfl

/-! ## A change of one station's record -/

@[simp] theorem State.modSt_pending (s : State) (n : Fin 64) (f : Station → Station) : (s.modSt n f).pending = s.pending := rfl
@[simp] theorem State.modSt_power (s : State) (n : Fin 64) (f : Station → Station) : (s.modSt n f).power = s.power := rfl
@[simp] theorem State.modSt_settings (s : State) (n : Fin 64) (f : Station → Station) : (s.modSt n f).settings = s.settings := rfl
@[simp] theorem State.modSt_carriages (s : State) (n : Fin 64) (f : Station → Station) : (s.modSt n f).carriages = s.carriages := rfl
@[simp] theorem State.modSt_ringA (s : State) (n : Fin 64) (f : Station → Station) : (s.modSt n f).ringA = s.ringA := rfl
@[simp] theorem State.modSt_ringB (s : State) (n : Fin 64) (f : Station → Station) : (s.modSt n f).ringB = s.ringB := rfl
@[simp] theorem State.modSt_arbiter (s : State) (n : Fin 64) (f : Station → Station) : (s.modSt n f).arbiter = s.arbiter := rfl
@[simp] theorem State.modSt_weather (s : State) (n : Fin 64) (f : Station → Station) : (s.modSt n f).weather = s.weather := rfl
@[simp] theorem State.modSt_link (s : State) (n : Fin 64) (f : Station → Station) : (s.modSt n f).link = s.link := rfl
@[simp] theorem State.modSt_store (s : State) (n : Fin 64) (f : Station → Station) : (s.modSt n f).store = s.store := rfl
@[simp] theorem State.modSt_lines (s : State) (n : Fin 64) (f : Station → Station) : (s.modSt n f).lines = s.lines := rfl
@[simp] theorem State.modSt_baud (s : State) (n : Fin 64) (f : Station → Station) : (s.modSt n f).baud = s.baud := rfl
@[simp] theorem State.modSt_ready (s : State) (n : Fin 64) (f : Station → Station) : (s.modSt n f).ready = s.ready := rfl
@[simp] theorem State.modSt_motion (s : State) (n : Fin 64) (f : Station → Station) : (s.modSt n f).motion = s.motion := rfl
@[simp] theorem State.modSt_fieldTime (s : State) (n : Fin 64) (f : Station → Station) : (s.modSt n f).fieldTime = s.fieldTime := rfl
@[simp] theorem State.modSt_posts (s : State) (n : Fin 64) (f : Station → Station) : (s.modSt n f).posts = s.posts := rfl
@[simp] theorem State.modSt_freeCount (s : State) (n : Fin 64) (f : Station → Station) : (s.modSt n f).freeCount = s.freeCount := rfl

@[simp] theorem State.modSt_car (s : State) (n : Fin 64) (f : Station → Station) (d : Fin 6) : (s.modSt n f).car d = s.car d := rfl
@[simp] theorem State.modSt_cfg (s : State) (n : Fin 64) (f : Station → Station) (d : Fin 6) : (s.modSt n f).cfg d = s.cfg d := rfl
@[simp] theorem State.modSt_stCfg (s : State) (n : Fin 64) (f : Station → Station) (m : Fin 64) : (s.modSt n f).stCfg m = s.stCfg m := rfl
@[simp] theorem State.modSt_home (s : State) (n : Fin 64) (f : Station → Station) (m : Fin 64) : (s.modSt n f).home m = s.home m := rfl
@[simp] theorem State.modSt_ringCfg (s : State) (n : Fin 64) (f : Station → Station) (q : RingId) : (s.modSt n f).ringCfg q = s.ringCfg q := rfl
@[simp] theorem State.modSt_response (s : State) (n : Fin 64) (f : Station → Station) (d : Fin 6) : (s.modSt n f).response d = s.response d := rfl
@[simp] theorem State.modSt_ring (s : State) (n : Fin 64) (f : Station → Station) (q : RingId) : (s.modSt n f).ring q = s.ring q := by cases q <;> rfl

/-! ## A change of one ring's record -/

@[simp] theorem State.modRing_pending (s : State) (r : RingId) (f : Ring → Ring) : (s.modRing r f).pending = s.pending := by cases r <;> rfl
@[simp] theorem State.modRing_power (s : State) (r : RingId) (f : Ring → Ring) : (s.modRing r f).power = s.power := by cases r <;> rfl
@[simp] theorem State.modRing_settings (s : State) (r : RingId) (f : Ring → Ring) : (s.modRing r f).settings = s.settings := by cases r <;> rfl
@[simp] theorem State.modRing_carriages (s : State) (r : RingId) (f : Ring → Ring) : (s.modRing r f).carriages = s.carriages := by cases r <;> rfl
@[simp] theorem State.modRing_stations (s : State) (r : RingId) (f : Ring → Ring) : (s.modRing r f).stations = s.stations := by cases r <;> rfl
@[simp] theorem State.modRing_arbiter (s : State) (r : RingId) (f : Ring → Ring) : (s.modRing r f).arbiter = s.arbiter := by cases r <;> rfl
@[simp] theorem State.modRing_weather (s : State) (r : RingId) (f : Ring → Ring) : (s.modRing r f).weather = s.weather := by cases r <;> rfl
@[simp] theorem State.modRing_link (s : State) (r : RingId) (f : Ring → Ring) : (s.modRing r f).link = s.link := by cases r <;> rfl
@[simp] theorem State.modRing_store (s : State) (r : RingId) (f : Ring → Ring) : (s.modRing r f).store = s.store := by cases r <;> rfl
@[simp] theorem State.modRing_lines (s : State) (r : RingId) (f : Ring → Ring) : (s.modRing r f).lines = s.lines := by cases r <;> rfl
@[simp] theorem State.modRing_baud (s : State) (r : RingId) (f : Ring → Ring) : (s.modRing r f).baud = s.baud := by cases r <;> rfl
@[simp] theorem State.modRing_ready (s : State) (r : RingId) (f : Ring → Ring) : (s.modRing r f).ready = s.ready := by cases r <;> rfl
@[simp] theorem State.modRing_motion (s : State) (r : RingId) (f : Ring → Ring) : (s.modRing r f).motion = s.motion := by cases r <;> rfl
@[simp] theorem State.modRing_fieldTime (s : State) (r : RingId) (f : Ring → Ring) : (s.modRing r f).fieldTime = s.fieldTime := by cases r <;> rfl
@[simp] theorem State.modRing_posts (s : State) (r : RingId) (f : Ring → Ring) : (s.modRing r f).posts = s.posts := by cases r <;> rfl
@[simp] theorem State.modRing_freeCount (s : State) (r : RingId) (f : Ring → Ring) : (s.modRing r f).freeCount = s.freeCount := by cases r <;> rfl

@[simp] theorem State.modRing_car (s : State) (r : RingId) (f : Ring → Ring) (d : Fin 6) : (s.modRing r f).car d = s.car d := by cases r <;> rfl
@[simp] theorem State.modRing_cfg (s : State) (r : RingId) (f : Ring → Ring) (d : Fin 6) : (s.modRing r f).cfg d = s.cfg d := by cases r <;> rfl
@[simp] theorem State.modRing_st (s : State) (r : RingId) (f : Ring → Ring) (m : Fin 64) : (s.modRing r f).st m = s.st m := by cases r <;> rfl
@[simp] theorem State.modRing_stCfg (s : State) (r : RingId) (f : Ring → Ring) (m : Fin 64) : (s.modRing r f).stCfg m = s.stCfg m := by cases r <;> rfl
@[simp] theorem State.modRing_home (s : State) (r : RingId) (f : Ring → Ring) (m : Fin 64) : (s.modRing r f).home m = s.home m := by cases r <;> rfl
@[simp] theorem State.modRing_ringCfg (s : State) (r : RingId) (f : Ring → Ring) (q : RingId) : (s.modRing r f).ringCfg q = s.ringCfg q := by cases r <;> rfl
@[simp] theorem State.modRing_response (s : State) (r : RingId) (f : Ring → Ring) (d : Fin 6) : (s.modRing r f).response d = s.response d := by cases r <;> rfl

/-! ## An event posted to the Link Unit -/

@[simp] theorem State.post_pending (s : State) (e : Event) : (s.post e).pending = s.pending := rfl
@[simp] theorem State.post_power (s : State) (e : Event) : (s.post e).power = s.power := rfl
@[simp] theorem State.post_settings (s : State) (e : Event) : (s.post e).settings = s.settings := rfl
@[simp] theorem State.post_carriages (s : State) (e : Event) : (s.post e).carriages = s.carriages := rfl
@[simp] theorem State.post_stations (s : State) (e : Event) : (s.post e).stations = s.stations := rfl
@[simp] theorem State.post_ringA (s : State) (e : Event) : (s.post e).ringA = s.ringA := rfl
@[simp] theorem State.post_ringB (s : State) (e : Event) : (s.post e).ringB = s.ringB := rfl
@[simp] theorem State.post_arbiter (s : State) (e : Event) : (s.post e).arbiter = s.arbiter := rfl
@[simp] theorem State.post_weather (s : State) (e : Event) : (s.post e).weather = s.weather := rfl
@[simp] theorem State.post_store (s : State) (e : Event) : (s.post e).store = s.store := rfl
@[simp] theorem State.post_lines (s : State) (e : Event) : (s.post e).lines = s.lines := rfl
@[simp] theorem State.post_baud (s : State) (e : Event) : (s.post e).baud = s.baud := rfl
@[simp] theorem State.post_ready (s : State) (e : Event) : (s.post e).ready = s.ready := rfl
@[simp] theorem State.post_motion (s : State) (e : Event) : (s.post e).motion = s.motion := rfl
@[simp] theorem State.post_fieldTime (s : State) (e : Event) : (s.post e).fieldTime = s.fieldTime := rfl
@[simp] theorem State.post_posts (s : State) (e : Event) : (s.post e).posts = s.posts := rfl
@[simp] theorem State.post_freeCount (s : State) (e : Event) : (s.post e).freeCount = s.freeCount := rfl

@[simp] theorem State.post_car (s : State) (e : Event) (d : Fin 6) : (s.post e).car d = s.car d := rfl
@[simp] theorem State.post_cfg (s : State) (e : Event) (d : Fin 6) : (s.post e).cfg d = s.cfg d := rfl
@[simp] theorem State.post_st (s : State) (e : Event) (m : Fin 64) : (s.post e).st m = s.st m := rfl
@[simp] theorem State.post_stCfg (s : State) (e : Event) (m : Fin 64) : (s.post e).stCfg m = s.stCfg m := rfl
@[simp] theorem State.post_home (s : State) (e : Event) (m : Fin 64) : (s.post e).home m = s.home m := rfl
@[simp] theorem State.post_ringCfg (s : State) (e : Event) (q : RingId) : (s.post e).ringCfg q = s.ringCfg q := rfl
@[simp] theorem State.post_response (s : State) (e : Event) (d : Fin 6) : (s.post e).response d = s.response d := rfl
@[simp] theorem State.post_ring (s : State) (e : Event) (q : RingId) : (s.post e).ring q = s.ring q := by cases q <;> rfl

/-! ## A message posted to another block -/

@[simp] theorem State.send_pending (s : State) (p : Post) : (s.send p).pending = s.pending := rfl
@[simp] theorem State.send_power (s : State) (p : Post) : (s.send p).power = s.power := rfl
@[simp] theorem State.send_settings (s : State) (p : Post) : (s.send p).settings = s.settings := rfl
@[simp] theorem State.send_carriages (s : State) (p : Post) : (s.send p).carriages = s.carriages := rfl
@[simp] theorem State.send_stations (s : State) (p : Post) : (s.send p).stations = s.stations := rfl
@[simp] theorem State.send_ringA (s : State) (p : Post) : (s.send p).ringA = s.ringA := rfl
@[simp] theorem State.send_ringB (s : State) (p : Post) : (s.send p).ringB = s.ringB := rfl
@[simp] theorem State.send_arbiter (s : State) (p : Post) : (s.send p).arbiter = s.arbiter := rfl
@[simp] theorem State.send_weather (s : State) (p : Post) : (s.send p).weather = s.weather := rfl
@[simp] theorem State.send_link (s : State) (p : Post) : (s.send p).link = s.link := rfl
@[simp] theorem State.send_store (s : State) (p : Post) : (s.send p).store = s.store := rfl
@[simp] theorem State.send_lines (s : State) (p : Post) : (s.send p).lines = s.lines := rfl
@[simp] theorem State.send_baud (s : State) (p : Post) : (s.send p).baud = s.baud := rfl
@[simp] theorem State.send_ready (s : State) (p : Post) : (s.send p).ready = s.ready := rfl
@[simp] theorem State.send_motion (s : State) (p : Post) : (s.send p).motion = s.motion := rfl
@[simp] theorem State.send_fieldTime (s : State) (p : Post) : (s.send p).fieldTime = s.fieldTime := rfl
@[simp] theorem State.send_freeCount (s : State) (p : Post) : (s.send p).freeCount = s.freeCount := rfl

@[simp] theorem State.send_car (s : State) (p : Post) (d : Fin 6) : (s.send p).car d = s.car d := rfl
@[simp] theorem State.send_cfg (s : State) (p : Post) (d : Fin 6) : (s.send p).cfg d = s.cfg d := rfl
@[simp] theorem State.send_st (s : State) (p : Post) (m : Fin 64) : (s.send p).st m = s.st m := rfl
@[simp] theorem State.send_stCfg (s : State) (p : Post) (m : Fin 64) : (s.send p).stCfg m = s.stCfg m := rfl
@[simp] theorem State.send_home (s : State) (p : Post) (m : Fin 64) : (s.send p).home m = s.home m := rfl
@[simp] theorem State.send_ringCfg (s : State) (p : Post) (q : RingId) : (s.send p).ringCfg q = s.ringCfg q := rfl
@[simp] theorem State.send_response (s : State) (p : Post) (d : Fin 6) : (s.send p).response d = s.response d := rfl
@[simp] theorem State.send_ring (s : State) (p : Post) (q : RingId) : (s.send p).ring q = s.ring q := by cases q <;> rfl

/-! ## A message taken -/

@[simp] theorem State.takeMessage_pending (s : State) (p : Post) : (s.takeMessage p).pending = s.pending := rfl
@[simp] theorem State.takeMessage_power (s : State) (p : Post) : (s.takeMessage p).power = s.power := rfl
@[simp] theorem State.takeMessage_settings (s : State) (p : Post) : (s.takeMessage p).settings = s.settings := rfl
@[simp] theorem State.takeMessage_carriages (s : State) (p : Post) : (s.takeMessage p).carriages = s.carriages := rfl
@[simp] theorem State.takeMessage_stations (s : State) (p : Post) : (s.takeMessage p).stations = s.stations := rfl
@[simp] theorem State.takeMessage_ringA (s : State) (p : Post) : (s.takeMessage p).ringA = s.ringA := rfl
@[simp] theorem State.takeMessage_ringB (s : State) (p : Post) : (s.takeMessage p).ringB = s.ringB := rfl
@[simp] theorem State.takeMessage_arbiter (s : State) (p : Post) : (s.takeMessage p).arbiter = s.arbiter := rfl
@[simp] theorem State.takeMessage_weather (s : State) (p : Post) : (s.takeMessage p).weather = s.weather := rfl
@[simp] theorem State.takeMessage_link (s : State) (p : Post) : (s.takeMessage p).link = s.link := rfl
@[simp] theorem State.takeMessage_store (s : State) (p : Post) : (s.takeMessage p).store = s.store := rfl
@[simp] theorem State.takeMessage_lines (s : State) (p : Post) : (s.takeMessage p).lines = s.lines := rfl
@[simp] theorem State.takeMessage_baud (s : State) (p : Post) : (s.takeMessage p).baud = s.baud := rfl
@[simp] theorem State.takeMessage_ready (s : State) (p : Post) : (s.takeMessage p).ready = s.ready := rfl
@[simp] theorem State.takeMessage_motion (s : State) (p : Post) : (s.takeMessage p).motion = s.motion := rfl
@[simp] theorem State.takeMessage_fieldTime (s : State) (p : Post) : (s.takeMessage p).fieldTime = s.fieldTime := rfl
@[simp] theorem State.takeMessage_freeCount (s : State) (p : Post) : (s.takeMessage p).freeCount = s.freeCount := rfl

@[simp] theorem State.takeMessage_car (s : State) (p : Post) (d : Fin 6) : (s.takeMessage p).car d = s.car d := rfl
@[simp] theorem State.takeMessage_cfg (s : State) (p : Post) (d : Fin 6) : (s.takeMessage p).cfg d = s.cfg d := rfl
@[simp] theorem State.takeMessage_st (s : State) (p : Post) (m : Fin 64) : (s.takeMessage p).st m = s.st m := rfl
@[simp] theorem State.takeMessage_stCfg (s : State) (p : Post) (m : Fin 64) : (s.takeMessage p).stCfg m = s.stCfg m := rfl
@[simp] theorem State.takeMessage_home (s : State) (p : Post) (m : Fin 64) : (s.takeMessage p).home m = s.home m := rfl
@[simp] theorem State.takeMessage_ringCfg (s : State) (p : Post) (q : RingId) : (s.takeMessage p).ringCfg q = s.ringCfg q := rfl
@[simp] theorem State.takeMessage_response (s : State) (p : Post) (d : Fin 6) : (s.takeMessage p).response d = s.response d := rfl
@[simp] theorem State.takeMessage_ring (s : State) (p : Post) (q : RingId) : (s.takeMessage p).ring q = s.ring q := by cases q <;> rfl

/-! ## The end of an event -/

@[simp] theorem State.settle_pending (s : State) : (s.settle).pending = s.pending := rfl
@[simp] theorem State.settle_power (s : State) : (s.settle).power = s.power := rfl
@[simp] theorem State.settle_settings (s : State) : (s.settle).settings = s.settings := rfl
@[simp] theorem State.settle_carriages (s : State) : (s.settle).carriages = s.carriages := rfl
@[simp] theorem State.settle_stations (s : State) : (s.settle).stations = s.stations := rfl
@[simp] theorem State.settle_ringA (s : State) : (s.settle).ringA = s.ringA := rfl
@[simp] theorem State.settle_ringB (s : State) : (s.settle).ringB = s.ringB := rfl
@[simp] theorem State.settle_arbiter (s : State) : (s.settle).arbiter = s.arbiter := rfl
@[simp] theorem State.settle_weather (s : State) : (s.settle).weather = s.weather := rfl
@[simp] theorem State.settle_store (s : State) : (s.settle).store = s.store := rfl
@[simp] theorem State.settle_lines (s : State) : (s.settle).lines = s.lines := rfl
@[simp] theorem State.settle_baud (s : State) : (s.settle).baud = s.baud := rfl
@[simp] theorem State.settle_fieldTime (s : State) : (s.settle).fieldTime = s.fieldTime := rfl
@[simp] theorem State.settle_posts (s : State) : (s.settle).posts = s.posts := rfl
@[simp] theorem State.settle_freeCount (s : State) : (s.settle).freeCount = s.freeCount := rfl

@[simp] theorem State.settle_car (s : State) (d : Fin 6) : (s.settle).car d = s.car d := rfl
@[simp] theorem State.settle_cfg (s : State) (d : Fin 6) : (s.settle).cfg d = s.cfg d := rfl
@[simp] theorem State.settle_st (s : State) (m : Fin 64) : (s.settle).st m = s.st m := rfl
@[simp] theorem State.settle_stCfg (s : State) (m : Fin 64) : (s.settle).stCfg m = s.stCfg m := rfl
@[simp] theorem State.settle_home (s : State) (m : Fin 64) : (s.settle).home m = s.home m := rfl
@[simp] theorem State.settle_ringCfg (s : State) (q : RingId) : (s.settle).ringCfg q = s.ringCfg q := rfl
@[simp] theorem State.settle_response (s : State) (d : Fin 6) : (s.settle).response d = s.response d := rfl
@[simp] theorem State.settle_ring (s : State) (q : RingId) : (s.settle).ring q = s.ring q := by cases q <;> rfl

/-! ## An answer queued -/

@[simp] theorem State.answer_pending (s : State) (kind tag : Byte) (result : Result) (data : AnswerData) : (s.answer kind tag result data).pending = s.pending := rfl
@[simp] theorem State.answer_power (s : State) (kind tag : Byte) (result : Result) (data : AnswerData) : (s.answer kind tag result data).power = s.power := rfl
@[simp] theorem State.answer_settings (s : State) (kind tag : Byte) (result : Result) (data : AnswerData) : (s.answer kind tag result data).settings = s.settings := rfl
@[simp] theorem State.answer_carriages (s : State) (kind tag : Byte) (result : Result) (data : AnswerData) : (s.answer kind tag result data).carriages = s.carriages := rfl
@[simp] theorem State.answer_stations (s : State) (kind tag : Byte) (result : Result) (data : AnswerData) : (s.answer kind tag result data).stations = s.stations := rfl
@[simp] theorem State.answer_ringA (s : State) (kind tag : Byte) (result : Result) (data : AnswerData) : (s.answer kind tag result data).ringA = s.ringA := rfl
@[simp] theorem State.answer_ringB (s : State) (kind tag : Byte) (result : Result) (data : AnswerData) : (s.answer kind tag result data).ringB = s.ringB := rfl
@[simp] theorem State.answer_arbiter (s : State) (kind tag : Byte) (result : Result) (data : AnswerData) : (s.answer kind tag result data).arbiter = s.arbiter := rfl
@[simp] theorem State.answer_weather (s : State) (kind tag : Byte) (result : Result) (data : AnswerData) : (s.answer kind tag result data).weather = s.weather := rfl
@[simp] theorem State.answer_store (s : State) (kind tag : Byte) (result : Result) (data : AnswerData) : (s.answer kind tag result data).store = s.store := rfl
@[simp] theorem State.answer_lines (s : State) (kind tag : Byte) (result : Result) (data : AnswerData) : (s.answer kind tag result data).lines = s.lines := rfl
@[simp] theorem State.answer_baud (s : State) (kind tag : Byte) (result : Result) (data : AnswerData) : (s.answer kind tag result data).baud = s.baud := rfl
@[simp] theorem State.answer_ready (s : State) (kind tag : Byte) (result : Result) (data : AnswerData) : (s.answer kind tag result data).ready = s.ready := rfl
@[simp] theorem State.answer_motion (s : State) (kind tag : Byte) (result : Result) (data : AnswerData) : (s.answer kind tag result data).motion = s.motion := rfl
@[simp] theorem State.answer_fieldTime (s : State) (kind tag : Byte) (result : Result) (data : AnswerData) : (s.answer kind tag result data).fieldTime = s.fieldTime := rfl
@[simp] theorem State.answer_posts (s : State) (kind tag : Byte) (result : Result) (data : AnswerData) : (s.answer kind tag result data).posts = s.posts := rfl
@[simp] theorem State.answer_freeCount (s : State) (kind tag : Byte) (result : Result) (data : AnswerData) : (s.answer kind tag result data).freeCount = s.freeCount := rfl

@[simp] theorem State.answer_car (s : State) (kind tag : Byte) (result : Result) (data : AnswerData) (d : Fin 6) : (s.answer kind tag result data).car d = s.car d := rfl
@[simp] theorem State.answer_cfg (s : State) (kind tag : Byte) (result : Result) (data : AnswerData) (d : Fin 6) : (s.answer kind tag result data).cfg d = s.cfg d := rfl
@[simp] theorem State.answer_st (s : State) (kind tag : Byte) (result : Result) (data : AnswerData) (m : Fin 64) : (s.answer kind tag result data).st m = s.st m := rfl
@[simp] theorem State.answer_stCfg (s : State) (kind tag : Byte) (result : Result) (data : AnswerData) (m : Fin 64) : (s.answer kind tag result data).stCfg m = s.stCfg m := rfl
@[simp] theorem State.answer_home (s : State) (kind tag : Byte) (result : Result) (data : AnswerData) (m : Fin 64) : (s.answer kind tag result data).home m = s.home m := rfl
@[simp] theorem State.answer_ringCfg (s : State) (kind tag : Byte) (result : Result) (data : AnswerData) (q : RingId) : (s.answer kind tag result data).ringCfg q = s.ringCfg q := rfl
@[simp] theorem State.answer_response (s : State) (kind tag : Byte) (result : Result) (data : AnswerData) (d : Fin 6) : (s.answer kind tag result data).response d = s.response d := rfl
@[simp] theorem State.answer_ring (s : State) (kind tag : Byte) (result : Result) (data : AnswerData) (q : RingId) : (s.answer kind tag result data).ring q = s.ring q := by cases q <;> rfl

/-! ## The descent timer set -/

@[simp] theorem State.setDescent_pending (s : State) (t : Timer) : (s.setDescent t).pending = s.pending := rfl
@[simp] theorem State.setDescent_power (s : State) (t : Timer) : (s.setDescent t).power = s.power := rfl
@[simp] theorem State.setDescent_settings (s : State) (t : Timer) : (s.setDescent t).settings = s.settings := rfl
@[simp] theorem State.setDescent_carriages (s : State) (t : Timer) : (s.setDescent t).carriages = s.carriages := rfl
@[simp] theorem State.setDescent_stations (s : State) (t : Timer) : (s.setDescent t).stations = s.stations := rfl
@[simp] theorem State.setDescent_ringA (s : State) (t : Timer) : (s.setDescent t).ringA = s.ringA := rfl
@[simp] theorem State.setDescent_ringB (s : State) (t : Timer) : (s.setDescent t).ringB = s.ringB := rfl
@[simp] theorem State.setDescent_arbiter (s : State) (t : Timer) : (s.setDescent t).arbiter = s.arbiter := rfl
@[simp] theorem State.setDescent_link (s : State) (t : Timer) : (s.setDescent t).link = s.link := rfl
@[simp] theorem State.setDescent_store (s : State) (t : Timer) : (s.setDescent t).store = s.store := rfl
@[simp] theorem State.setDescent_lines (s : State) (t : Timer) : (s.setDescent t).lines = s.lines := rfl
@[simp] theorem State.setDescent_baud (s : State) (t : Timer) : (s.setDescent t).baud = s.baud := rfl
@[simp] theorem State.setDescent_ready (s : State) (t : Timer) : (s.setDescent t).ready = s.ready := rfl
@[simp] theorem State.setDescent_motion (s : State) (t : Timer) : (s.setDescent t).motion = s.motion := rfl
@[simp] theorem State.setDescent_fieldTime (s : State) (t : Timer) : (s.setDescent t).fieldTime = s.fieldTime := rfl
@[simp] theorem State.setDescent_posts (s : State) (t : Timer) : (s.setDescent t).posts = s.posts := rfl
@[simp] theorem State.setDescent_freeCount (s : State) (t : Timer) : (s.setDescent t).freeCount = s.freeCount := rfl

@[simp] theorem State.setDescent_car (s : State) (t : Timer) (d : Fin 6) : (s.setDescent t).car d = s.car d := rfl
@[simp] theorem State.setDescent_cfg (s : State) (t : Timer) (d : Fin 6) : (s.setDescent t).cfg d = s.cfg d := rfl
@[simp] theorem State.setDescent_st (s : State) (t : Timer) (m : Fin 64) : (s.setDescent t).st m = s.st m := rfl
@[simp] theorem State.setDescent_stCfg (s : State) (t : Timer) (m : Fin 64) : (s.setDescent t).stCfg m = s.stCfg m := rfl
@[simp] theorem State.setDescent_home (s : State) (t : Timer) (m : Fin 64) : (s.setDescent t).home m = s.home m := rfl
@[simp] theorem State.setDescent_ringCfg (s : State) (t : Timer) (q : RingId) : (s.setDescent t).ringCfg q = s.ringCfg q := rfl
@[simp] theorem State.setDescent_ring (s : State) (t : Timer) (q : RingId) : (s.setDescent t).ring q = s.ring q := by cases q <;> rfl

/-! ## A station's configuration replaced -/

@[simp] theorem State.withStation_pending (s : State) (n : Fin 64) (k : StationConfig) : (s.withStation n k).pending = s.pending := rfl
@[simp] theorem State.withStation_power (s : State) (n : Fin 64) (k : StationConfig) : (s.withStation n k).power = s.power := rfl
@[simp] theorem State.withStation_carriages (s : State) (n : Fin 64) (k : StationConfig) : (s.withStation n k).carriages = s.carriages := rfl
@[simp] theorem State.withStation_stations (s : State) (n : Fin 64) (k : StationConfig) : (s.withStation n k).stations = s.stations := rfl
@[simp] theorem State.withStation_ringA (s : State) (n : Fin 64) (k : StationConfig) : (s.withStation n k).ringA = s.ringA := rfl
@[simp] theorem State.withStation_ringB (s : State) (n : Fin 64) (k : StationConfig) : (s.withStation n k).ringB = s.ringB := rfl
@[simp] theorem State.withStation_arbiter (s : State) (n : Fin 64) (k : StationConfig) : (s.withStation n k).arbiter = s.arbiter := rfl
@[simp] theorem State.withStation_weather (s : State) (n : Fin 64) (k : StationConfig) : (s.withStation n k).weather = s.weather := rfl
@[simp] theorem State.withStation_link (s : State) (n : Fin 64) (k : StationConfig) : (s.withStation n k).link = s.link := rfl
@[simp] theorem State.withStation_store (s : State) (n : Fin 64) (k : StationConfig) : (s.withStation n k).store = s.store := rfl
@[simp] theorem State.withStation_lines (s : State) (n : Fin 64) (k : StationConfig) : (s.withStation n k).lines = s.lines := rfl
@[simp] theorem State.withStation_baud (s : State) (n : Fin 64) (k : StationConfig) : (s.withStation n k).baud = s.baud := rfl
@[simp] theorem State.withStation_ready (s : State) (n : Fin 64) (k : StationConfig) : (s.withStation n k).ready = s.ready := rfl
@[simp] theorem State.withStation_motion (s : State) (n : Fin 64) (k : StationConfig) : (s.withStation n k).motion = s.motion := rfl
@[simp] theorem State.withStation_fieldTime (s : State) (n : Fin 64) (k : StationConfig) : (s.withStation n k).fieldTime = s.fieldTime := rfl
@[simp] theorem State.withStation_posts (s : State) (n : Fin 64) (k : StationConfig) : (s.withStation n k).posts = s.posts := rfl
@[simp] theorem State.withStation_freeCount (s : State) (n : Fin 64) (k : StationConfig) : (s.withStation n k).freeCount = s.freeCount := rfl

@[simp] theorem State.withStation_car (s : State) (n : Fin 64) (k : StationConfig) (d : Fin 6) : (s.withStation n k).car d = s.car d := rfl
@[simp] theorem State.withStation_st (s : State) (n : Fin 64) (k : StationConfig) (m : Fin 64) : (s.withStation n k).st m = s.st m := rfl
@[simp] theorem State.withStation_ring (s : State) (n : Fin 64) (k : StationConfig) (q : RingId) : (s.withStation n k).ring q = s.ring q := by cases q <;> rfl

/-! ## The records that an update does change -/

theorem State.car_modCar (s : State) (c d : Fin 6) (f : Carriage → Carriage) :
    (s.modCar c f).car d = if c = d then f (s.car d) else s.car d := by
  by_cases h : c = d
  · subst h; simp [State.car, State.modCar]
  · simp [State.car, State.modCar, h, Fin.val_inj]

@[simp] theorem State.car_modCar_self (s : State) (c : Fin 6) (f : Carriage → Carriage) :
    (s.modCar c f).car c = f (s.car c) := by simp [State.car_modCar]

theorem State.car_modCar_other (s : State) (c d : Fin 6) (f : Carriage → Carriage) (h : c ≠ d) :
    (s.modCar c f).car d = s.car d := by simp [State.car_modCar, h]

theorem State.st_modSt (s : State) (n m : Fin 64) (f : Station → Station) :
    (s.modSt n f).st m = if n = m then f (s.st m) else s.st m := by
  by_cases h : n = m
  · subst h; simp [State.st, State.modSt]
  · simp [State.st, State.modSt, h, Fin.val_inj]

@[simp] theorem State.st_modSt_self (s : State) (n : Fin 64) (f : Station → Station) :
    (s.modSt n f).st n = f (s.st n) := by simp [State.st_modSt]

theorem State.ring_modRing (s : State) (r q : RingId) (f : Ring → Ring) :
    (s.modRing r f).ring q = if r = q then f (s.ring q) else s.ring q := by
  cases r <;> cases q <;> rfl

@[simp] theorem State.ring_modRing_self (s : State) (r : RingId) (f : Ring → Ring) :
    (s.modRing r f).ring r = f (s.ring r) := by simp [State.ring_modRing]

@[simp] theorem State.post_link (s : State) (e : Event) : (s.post e).link = s.link.post s.settings.notices e := rfl

@[simp] theorem State.send_posts (s : State) (p : Post) : (s.send p).posts = s.posts ++ [p] := rfl

@[simp] theorem State.takeMessage_posts (s : State) (p : Post) : (s.takeMessage p).posts = s.posts.erase p := rfl

@[simp] theorem State.settle_link (s : State) : s.settle.link = s.link.choose := rfl

@[simp] theorem State.settle_ready (s : State) : s.settle.ready = (!s.lines.estop && !s.link.restartDue) := rfl

@[simp] theorem State.settle_motion (s : State) : s.settle.motion = s.anyInMotion := rfl

@[simp] theorem State.setDescent_timer (s : State) (t : Timer) : (s.setDescent t).weather.descentTimer = t := rfl

end Sys2Proof.Machine
end

