-- ==== Sys2Proof/Laws/Link.lean ====
section
/-! SUPPORT. What the Link Unit's operations do, once for all: flags, posting, the transmitter's choice, the taking of a
valid frame and of an order. -/

namespace Sys2Proof.Machine

/-! ## Flags -/

theorem setFlag_getLsbD (flags : BitVec 94) (f : Flag) (i : Nat) :
    (setFlag flags f).getLsbD i = (flags.getLsbD i || decide (i < 94 ∧ i = f.index)) := by
  simp only [setFlag, BitVec.getLsbD_or, BitVec.getLsbD_ofNat, Nat.testBit_two_pow]
  by_cases h : i < 94 <;> by_cases h2 : i = f.index <;> simp_all [eq_comm]

theorem Flag.index_lt (f : Flag) : f.index < 94 := by
  cases f with
  | ofCarriage c f => cases f <;> simp only [Flag.index, CarriageFlag.number] <;> omega
  | ofModule f => cases f <;> simp [Flag.index, GlobalFlag.number]

theorem Flag.index_inj {f g : Flag} (h : f.index = g.index) : f = g := by
  cases f with
  | ofCarriage c f =>
    cases g with
    | ofCarriage d g =>
      have hc : c = d := by
        apply Fin.ext
        cases f <;> cases g <;> simp only [Flag.index, CarriageFlag.number] at h <;> omega
      subst hc
      cases f <;> cases g <;> simp [Flag.index, CarriageFlag.number] at h ⊢
    | ofModule g =>
      cases f <;> cases g <;> simp only [Flag.index, CarriageFlag.number, GlobalFlag.number] at h <;> omega
  | ofModule f =>
    cases g with
    | ofCarriage d g =>
      cases f <;> cases g <;> simp only [Flag.index, CarriageFlag.number, GlobalFlag.number] at h <;> omega
    | ofModule g => cases f <;> cases g <;> simp [Flag.index, GlobalFlag.number] at h ⊢

theorem setFlags_getLsbD (fs : List Flag) : ∀ (flags : BitVec 94) (i : Nat),
    (fs.foldl setFlag flags).getLsbD i = (flags.getLsbD i || decide (∃ f ∈ fs, f.index = i)) := by
  induction fs with
  | nil => intro flags i; simp
  | cons f fs ih =>
    intro flags i
    have hf := f.index_lt
    simp only [List.foldl_cons, ih, setFlag_getLsbD, List.mem_cons, exists_eq_or_imp]
    by_cases h : i = f.index
    · subst h; simp [hf]
    · simp [h, Ne.symm h]

@[simp] theorem Link.raise_flag (l : Link) (fs : List Flag) (f : Flag) :
    (l.raise fs).flag f = (l.flag f || decide (f ∈ fs)) := by
  simp only [Link.flag, Link.raise, setFlags_getLsbD]
  congr 1
  apply decide_eq_decide.mpr
  constructor
  · rintro ⟨g, hg, h⟩; rw [← Flag.index_inj h]; exact hg
  · intro h; exact ⟨f, h, rfl⟩

/-! ## Posting an event (R178, R179) -/

/-- The fields of the Link Unit that posting an event leaves. -/
theorem Link.post_keeps (l : Link) (n : NoticeSettings) (e : Event) :
    (l.post n e).receiver = l.receiver ∧ (l.post n e).lastError = l.lastError ∧
    (l.post n e).answers = l.answers ∧ (l.post n e).sending = l.sending ∧ (l.post n e).sequence = l.sequence ∧
    (l.post n e).silence = l.silence ∧ (l.post n e).restartPending = l.restartPending := by
  unfold Link.post
  dsimp only
  split
  · split
    · exact ⟨rfl, rfl, rfl, rfl, rfl, rfl, rfl⟩
    · unfold Link.offerRoutine; split <;> exact ⟨rfl, rfl, rfl, rfl, rfl, rfl, rfl⟩
    · unfold Link.offerUrgent; split <;> exact ⟨rfl, rfl, rfl, rfl, rfl, rfl, rfl⟩
  · exact ⟨rfl, rfl, rfl, rfl, rfl, rfl, rfl⟩

@[simp] theorem Link.post_answers (l : Link) (n : NoticeSettings) (e : Event) : (l.post n e).answers = l.answers :=
  (l.post_keeps n e).2.2.1
@[simp] theorem Link.post_sending (l : Link) (n : NoticeSettings) (e : Event) : (l.post n e).sending = l.sending :=
  (l.post_keeps n e).2.2.2.1
@[simp] theorem Link.post_silence (l : Link) (n : NoticeSettings) (e : Event) : (l.post n e).silence = l.silence :=
  (l.post_keeps n e).2.2.2.2.2.1
@[simp] theorem Link.post_restartPending (l : Link) (n : NoticeSettings) (e : Event) :
    (l.post n e).restartPending = l.restartPending := (l.post_keeps n e).2.2.2.2.2.2
theorem Link.outstanding_eq (l : Link) : l.outstanding = l.answersOut.length := by
  unfold Link.outstanding Link.answersOut Link.sendingAnswer
  cases h : l.sending with
  | none => simp
  | some f => cases f <;> simp [OutFrame.answer?]

@[simp] theorem Link.post_answersOut (l : Link) (n : NoticeSettings) (e : Event) :
    (l.post n e).answersOut = l.answersOut := by simp [Link.answersOut]
@[simp] theorem Link.post_outstanding (l : Link) (n : NoticeSettings) (e : Event) :
    (l.post n e).outstanding = l.outstanding := by simp [Link.outstanding_eq]

/-- Posting an event keeps every flag that is set. -/
theorem Link.post_flag_of (l : Link) (n : NoticeSettings) (e : Event) (f : Flag)
    (h : l.flag f = true ∨ f ∈ e.flags) : (l.post n e).flag f = true := by
  have h0 : (l.raise e.flags).flag f = true := by simpa using h
  unfold Link.post
  dsimp only
  split
  · split
    · exact h0
    · unfold Link.offerRoutine
      split
      · exact h0
      · rw [Link.raise_flag]; simp [Link.flag] at h0 ⊢; exact Or.inl h0
    · unfold Link.offerUrgent
      split
      · exact h0
      · rw [Link.raise_flag]; simp [Link.flag] at h0 ⊢; exact Or.inl h0
  · exact h0

/-- Posting an event keeps the capacities of the notice queues. -/
theorem Link.post_bounded (l : Link) (n : NoticeSettings) (e : Event) (hu : l.urgent.length ≤ urgentCapacity)
    (hr : l.routine.length ≤ routineCapacity) :
    (l.post n e).urgent.length ≤ urgentCapacity ∧ (l.post n e).routine.length ≤ routineCapacity := by
  unfold Link.post
  dsimp only
  split
  · split
    · exact ⟨hu, hr⟩
    · unfold Link.offerRoutine
      split
      · next h => refine ⟨hu, ?_⟩; simp [Link.raise] at h ⊢; omega
      · exact ⟨hu, hr⟩
    · unfold Link.offerUrgent
      split
      · next h => refine ⟨?_, hr⟩; simp [Link.raise] at h ⊢; omega
      · exact ⟨hu, hr⟩
  · exact ⟨hu, hr⟩

/-! ## The transmitter's choice (R180) -/

/-- What the transmitter's choice leaves of the Link Unit. -/
theorem Link.choose_keeps (l : Link) :
    l.choose.receiver = l.receiver ∧ l.choose.lastError = l.lastError ∧ l.choose.flags = l.flags ∧
    l.choose.silence = l.silence ∧ l.choose.restartPending = l.restartPending := by
  unfold Link.choose
  split
  · exact ⟨rfl, rfl, rfl, rfl, rfl⟩
  · split
    · exact ⟨rfl, rfl, rfl, rfl, rfl⟩
    · split
      · exact ⟨rfl, rfl, rfl, rfl, rfl⟩
      · split <;> exact ⟨rfl, rfl, rfl, rfl, rfl⟩

@[simp] theorem Link.choose_receiver (l : Link) : l.choose.receiver = l.receiver := l.choose_keeps.1
@[simp] theorem Link.choose_lastError (l : Link) : l.choose.lastError = l.lastError := l.choose_keeps.2.1
@[simp] theorem Link.choose_flags (l : Link) : l.choose.flags = l.flags := l.choose_keeps.2.2.1
@[simp] theorem Link.choose_flag (l : Link) (f : Flag) : l.choose.flag f = l.flag f := by simp [Link.flag]
@[simp] theorem Link.choose_silence (l : Link) : l.choose.silence = l.silence := l.choose_keeps.2.2.2.1
@[simp] theorem Link.choose_restartPending (l : Link) : l.choose.restartPending = l.restartPending :=
  l.choose_keeps.2.2.2.2

/-- The choice moves an answer from the queue to the line, so the answers outstanding stay the same. -/
@[simp] theorem Link.choose_answersOut (l : Link) : l.choose.answersOut = l.answersOut := by
  unfold Link.choose
  split
  · rfl
  · next h =>
    simp only [Bool.or_eq_true, not_or, Bool.not_eq_true, Option.isSome_eq_false_iff, Option.isNone_iff_eq_none] at h
    split
    · next a rest ha => simp [Link.answersOut, h.1, ha, OutFrame.answer?]
    · next ha =>
      split
      · simp [Link.answersOut, h.1, ha, OutFrame.answer?]
      · split
        · simp [Link.answersOut, h.1, ha, OutFrame.answer?]
        · rfl

@[simp] theorem Link.choose_outstanding (l : Link) : l.choose.outstanding = l.outstanding := by
  simp [Link.outstanding_eq]

/-- The choice neither brings a reset of a RESTART about nor takes one back. -/
@[simp] theorem Link.choose_restartDue (l : Link) : l.choose.restartDue = l.restartDue := by
  unfold Link.choose
  split
  · rfl
  · next h =>
    simp only [Bool.or_eq_true, not_or, Bool.not_eq_true, Option.isSome_eq_false_iff, Option.isNone_iff_eq_none] at h
    rw [h.2]
    split
    · simp [Link.restartDue]
    · split
      · simp [Link.restartDue]
      · split
        · simp [Link.restartDue]
        · exact h.2

/-- The choice keeps the capacities of the notice queues. -/
theorem Link.choose_bounded (l : Link) (hu : l.urgent.length ≤ urgentCapacity)
    (hr : l.routine.length ≤ routineCapacity) :
    l.choose.urgent.length ≤ urgentCapacity ∧ l.choose.routine.length ≤ routineCapacity := by
  unfold Link.choose
  split
  · exact ⟨hu, hr⟩
  · split
    · exact ⟨hu, hr⟩
    · split
      · next h => rw [h] at hu; simp at hu; exact ⟨Nat.le_of_lt hu, hr⟩
      · split
        · next h => rw [h] at hr; simp at hr; exact ⟨hu, Nat.le_of_lt hr⟩
        · exact ⟨hu, hr⟩

/-! ## Events -/

/-- An event of the running module: what it does, then the outputs and the transmitter's choice. -/
theorem event_running (s : State) (f : State → State) (h : s.power = .running) : event s f = .next (f s).settle := by
  simp [event, h]

/-- While the module is not running an event changes nothing. -/
theorem event_idle (s : State) (f : State → State) (h : s.power ≠ .running) : event s f = .next s := by
  unfold event
  split
  · next h2 => exact absurd h2 h
  · rfl
  · rfl

/-- An event answers a next state, whatever it does. -/
theorem event_next (s : State) (f : State → State) : ∃ t, event s f = .next t := by
  unfold event; split <;> exact ⟨_, rfl⟩

/-! ## A valid frame (R170 step 1, R181) -/

/-- The messages that clear LINK at every engine. -/
def linkClearings : List Post := allCarriages.map fun c => .cleared c .link

theorem State.clearLink_eq (s : State) : s.clearLink = { s with posts := s.posts ++ linkClearings } := by
  simp [State.clearLink, allCarriages, linkClearings, State.send]

/-- A valid frame touches the receiver, the silence monitor and, when the monitor had expired, the messages. -/
theorem State.validFrame_eq (s : State) : ∃ (silence : Silence) (posts : List Post),
    s.validFrame = { s with link := { s.link with receiver := .hunting, silence := silence }, posts := posts } := by
  unfold State.validFrame
  dsimp only
  split
  · next h =>
    split
    · exact ⟨s.link.silence, s.posts, rfl⟩
    · exact ⟨_, _, rfl⟩
  · exact ⟨_, _, rfl⟩
  · exact ⟨_, _, by rw [State.clearLink_eq]⟩

@[simp] theorem State.validFrame_pending (s : State) : s.validFrame.pending = s.pending := by
  obtain ⟨_, _, h⟩ := s.validFrame_eq; rw [h]
@[simp] theorem State.validFrame_power (s : State) : s.validFrame.power = s.power := by
  obtain ⟨_, _, h⟩ := s.validFrame_eq; rw [h]
@[simp] theorem State.validFrame_settings (s : State) : s.validFrame.settings = s.settings := by
  obtain ⟨_, _, h⟩ := s.validFrame_eq; rw [h]
@[simp] theorem State.validFrame_carriages (s : State) : s.validFrame.carriages = s.carriages := by
  obtain ⟨_, _, h⟩ := s.validFrame_eq; rw [h]
@[simp] theorem State.validFrame_stations (s : State) : s.validFrame.stations = s.stations := by
  obtain ⟨_, _, h⟩ := s.validFrame_eq; rw [h]
@[simp] theorem State.validFrame_ringA (s : State) : s.validFrame.ringA = s.ringA := by
  obtain ⟨_, _, h⟩ := s.validFrame_eq; rw [h]
@[simp] theorem State.validFrame_ringB (s : State) : s.validFrame.ringB = s.ringB := by
  obtain ⟨_, _, h⟩ := s.validFrame_eq; rw [h]
@[simp] theorem State.validFrame_arbiter (s : State) : s.validFrame.arbiter = s.arbiter := by
  obtain ⟨_, _, h⟩ := s.validFrame_eq; rw [h]
@[simp] theorem State.validFrame_weather (s : State) : s.validFrame.weather = s.weather := by
  obtain ⟨_, _, h⟩ := s.validFrame_eq; rw [h]
@[simp] theorem State.validFrame_store (s : State) : s.validFrame.store = s.store := by
  obtain ⟨_, _, h⟩ := s.validFrame_eq; rw [h]
@[simp] theorem State.validFrame_lines (s : State) : s.validFrame.lines = s.lines := by
  obtain ⟨_, _, h⟩ := s.validFrame_eq; rw [h]
@[simp] theorem State.validFrame_baud (s : State) : s.validFrame.baud = s.baud := by
  obtain ⟨_, _, h⟩ := s.validFrame_eq; rw [h]
@[simp] theorem State.validFrame_ready (s : State) : s.validFrame.ready = s.ready := by
  obtain ⟨_, _, h⟩ := s.validFrame_eq; rw [h]
@[simp] theorem State.validFrame_motion (s : State) : s.validFrame.motion = s.motion := by
  obtain ⟨_, _, h⟩ := s.validFrame_eq; rw [h]
@[simp] theorem State.validFrame_fieldTime (s : State) : s.validFrame.fieldTime = s.fieldTime := by
  obtain ⟨_, _, h⟩ := s.validFrame_eq; rw [h]
@[simp] theorem State.validFrame_freeCount (s : State) : s.validFrame.freeCount = s.freeCount := by
  obtain ⟨_, _, h⟩ := s.validFrame_eq; rw [h]
@[simp] theorem State.validFrame_link_lastError (s : State) : s.validFrame.link.lastError = s.link.lastError := by
  obtain ⟨_, _, h⟩ := s.validFrame_eq; rw [h]
@[simp] theorem State.validFrame_link_answers (s : State) : s.validFrame.link.answers = s.link.answers := by
  obtain ⟨_, _, h⟩ := s.validFrame_eq; rw [h]
@[simp] theorem State.validFrame_link_sending (s : State) : s.validFrame.link.sending = s.link.sending := by
  obtain ⟨_, _, h⟩ := s.validFrame_eq; rw [h]
@[simp] theorem State.validFrame_link_urgent (s : State) : s.validFrame.link.urgent = s.link.urgent := by
  obtain ⟨_, _, h⟩ := s.validFrame_eq; rw [h]
@[simp] theorem State.validFrame_link_routine (s : State) : s.validFrame.link.routine = s.link.routine := by
  obtain ⟨_, _, h⟩ := s.validFrame_eq; rw [h]
@[simp] theorem State.validFrame_link_urgentLost (s : State) : s.validFrame.link.urgentLost = s.link.urgentLost := by
  obtain ⟨_, _, h⟩ := s.validFrame_eq; rw [h]
@[simp] theorem State.validFrame_link_routineLost (s : State) : s.validFrame.link.routineLost = s.link.routineLost := by
  obtain ⟨_, _, h⟩ := s.validFrame_eq; rw [h]
@[simp] theorem State.validFrame_link_sequence (s : State) : s.validFrame.link.sequence = s.link.sequence := by
  obtain ⟨_, _, h⟩ := s.validFrame_eq; rw [h]
@[simp] theorem State.validFrame_link_flags (s : State) : s.validFrame.link.flags = s.link.flags := by
  obtain ⟨_, _, h⟩ := s.validFrame_eq; rw [h]
@[simp] theorem State.validFrame_link_restartPending (s : State) : s.validFrame.link.restartPending = s.link.restartPending := by
  obtain ⟨_, _, h⟩ := s.validFrame_eq; rw [h]
@[simp] theorem State.validFrame_car (s : State) (c : Fin 6) : s.validFrame.car c = s.car c := by simp [State.car]
@[simp] theorem State.validFrame_cfg (s : State) (c : Fin 6) : s.validFrame.cfg c = s.cfg c := by simp [State.cfg]
@[simp] theorem State.validFrame_st (s : State) (n : Fin 64) : s.validFrame.st n = s.st n := by simp [State.st]
@[simp] theorem State.validFrame_stCfg (s : State) (n : Fin 64) : s.validFrame.stCfg n = s.stCfg n := by simp [State.stCfg]
@[simp] theorem State.validFrame_home (s : State) (n : Fin 64) : s.validFrame.home n = s.home n := by simp [State.home]
@[simp] theorem State.validFrame_ring (s : State) (r : RingId) : s.validFrame.ring r = s.ring r := by cases r <;> simp [State.ring]
@[simp] theorem State.validFrame_ringCfg (s : State) (r : RingId) : s.validFrame.ringCfg r = s.ringCfg r := by cases r <;> simp [State.ringCfg]

@[simp] theorem State.validFrame_answersOut (s : State) : s.validFrame.link.answersOut = s.link.answersOut := by
  simp [Link.answersOut]

@[simp] theorem State.validFrame_outstanding (s : State) : s.validFrame.link.outstanding = s.link.outstanding := by
  simp [Link.outstanding_eq]

@[simp] theorem State.validFrame_saving (s : State) : s.validFrame.saving = s.saving := by simp [State.saving]

/-! ## An order (R170, R171) -/

/-- The answer queued joins the tail of the answers outstanding. -/
theorem State.answer_answersOut (s : State) (kind tag : Byte) (result : Result) (data : AnswerData) :
    (s.answer kind tag result data).link.answersOut = s.link.answersOut ++ [⟨kind + 0x40, tag, result, data⟩] := by
  simp [State.answer, Link.answersOut]

/-- An order that the Link Unit takes: its handling, its answer, and the end of the event. -/
theorem order_taken {α : Type} (s : State) (kind tag : Byte) (b : Body α) (f : α → State → Reply)
    (h : s.takesOrders) :
    order kind tag b f s =
      .next ((handleBody b f s.validFrame).state.answer kind tag (handleBody b f s.validFrame).result
        (handleBody b f s.validFrame).data).settle := by
  obtain ⟨h1, h2, h3⟩ := h
  unfold order
  rw [event_running _ _ h1]
  simp [State.takeOrder, Nat.not_le.mpr h2, h3]

/-- What is left of an order after its handling, when the handling leaves the answers outstanding. -/
theorem order_answered {α : Type} (s : State) (kind tag : Byte) (b : Body α) (f : α → State → Reply)
    (h : s.takesOrders)
    (keep : (handleBody b f s.validFrame).state.link.answersOut = s.link.answersOut) :
    ∃ t, order kind tag b f s = .next t ∧
      Answered s t kind tag (handleBody b f s.validFrame).result (handleBody b f s.validFrame).data :=
  ⟨_, order_taken s kind tag b f h, by simp [Answered, State.answer_answersOut, keep]⟩

end Sys2Proof.Machine
end

