-- ==== Sys2Proof/Laws/Line.lean ====
section
/-! SUPPORT. What the host line's operations do: the levels of a character read back, the pauses, and a line event at the
module. -/

namespace Sys2Proof.Machine

/-! ## Levels -/

theorem byteOfLevels_bits (b : Byte) :
    byteOfLevels (b.getLsbD 0) (b.getLsbD 1) (b.getLsbD 2) (b.getLsbD 3) (b.getLsbD 4) (b.getLsbD 5) (b.getLsbD 6)
      (b.getLsbD 7) = b := by
  revert b; decide +kernel

/-- An idle level at the limit begins a gap; every other idle level brings nothing. -/
theorem lineEvents_idle (limit idle : Nat) (rest : List Bool) :
    lineEvents limit idle (true :: rest) =
      if idle = limit then .gap :: lineEvents limit (idle + 1) rest else lineEvents limit (idle + 1) rest := by
  cases rest <;> rfl

/-- The levels of a character bring that character and nothing else. -/
theorem lineEvents_charLevels_append (limit idle : Nat) (b : Byte) (rest : List Bool) :
    lineEvents limit idle (charLevels b ++ rest) = .char b :: lineEvents limit 0 rest := by
  simp only [charLevels, List.cons_append, List.nil_append, lineEvents, if_true, byteOfLevels_bits]

/-! ## A line event -/

@[simp] theorem State.withReceiver_power (s : State) (r : Receiver) : (s.withReceiver r).power = s.power := rfl
@[simp] theorem State.withReceiver_receiver (s : State) (r : Receiver) : (s.withReceiver r).link.receiver = r := rfl
@[simp] theorem State.withReceiver_pending (s : State) (r : Receiver) : (s.withReceiver r).pending = s.pending := rfl

/-- The receiver stays as it is when it is written with its own value. -/
@[simp] theorem State.withReceiver_self (s : State) : s.withReceiver s.link.receiver = s := rfl

@[simp] theorem State.withReceiver_withReceiver (s : State) (r q : Receiver) :
    (s.withReceiver r).withReceiver q = s.withReceiver q := rfl

/-- Everything a line event can do. -/
theorem State.hear_cases (s : State) (e : LineEvent) :
    (s.power ≠ .running ∧ s.hear e = .next s) ∨
    (s.power = .running ∧ ∃ r, s.link.receiver.take e = (r, none) ∧ s.hear e = .next (s.withReceiver r)) ∨
    (s.power = .running ∧ ∃ r i, s.link.receiver.take e = (r, some i) ∧ s.hear e = exec i (s.withReceiver r)) := by
  unfold State.hear
  split
  · split
    · exact .inr (.inl ⟨‹_›, _, ‹_›, rfl⟩)
    · exact .inr (.inr ⟨‹_›, _, _, ‹_›, rfl⟩)
  · exact .inl ⟨by simp [*], rfl⟩
  · exact .inl ⟨by simp [*], rfl⟩

end Sys2Proof.Machine
end

