-- ==== Sys2Proof/Laws/Work.lean ====
section
/-! SUPPORT. What each shared operation leaves alone, said once as a relation between the state before and after that
composes: work on stations and rings, work on one carriage, and work of any block on its records. -/

namespace Sys2Proof.Machine

/-! ## The three relations -/

/-- Events have been posted: the rest of the Link Unit is as it was, flags that were set are set, and queues within
their capacities stay within them. -/
structure Posted (l k : Link) : Prop where
  receiver : k.receiver = l.receiver
  lastError : k.lastError = l.lastError
  answers : k.answers = l.answers
  sending : k.sending = l.sending
  silence : k.silence = l.silence
  restartPending : k.restartPending = l.restartPending
  flags : ∀ f, l.flag f = true → k.flag f = true
  bounded : l.urgent.length ≤ urgentCapacity ∧ l.routine.length ≤ routineCapacity →
    k.urgent.length ≤ urgentCapacity ∧ k.routine.length ≤ routineCapacity

theorem Posted.refl (l : Link) : Posted l l := ⟨rfl, rfl, rfl, rfl, rfl, rfl, fun _ h => h, fun h => h⟩

theorem Posted.trans {l k m : Link} (h : Posted l k) (g : Posted k m) : Posted l m :=
  ⟨g.receiver.trans h.receiver, g.lastError.trans h.lastError, g.answers.trans h.answers, g.sending.trans h.sending,
   g.silence.trans h.silence, g.restartPending.trans h.restartPending, fun f x => g.flags f (h.flags f x),
   fun x => g.bounded (h.bounded x)⟩

theorem Posted.answersOut {l k : Link} (h : Posted l k) : k.answersOut = l.answersOut := by
  simp [Link.answersOut, h.answers, h.sending]

theorem Posted.post (l : Link) (n : NoticeSettings) (e : Event) : Posted l (l.post n e) :=
  have h := l.post_keeps n e
  ⟨h.1, h.2.1, h.2.2.1, h.2.2.2.1, h.2.2.2.2.2.1, h.2.2.2.2.2.2, fun f x => l.post_flag_of n e f (Or.inl x),
   fun x => l.post_bounded n e x.1 x.2⟩

/-- A block has worked on its records: carriages, stations, rings, the Arbiter, messages and posted events. -/
structure Work (s t : State) : Prop where
  pending : t.pending = s.pending
  power : t.power = s.power
  settings : t.settings = s.settings
  weather : t.weather = s.weather
  store : t.store = s.store
  lines : t.lines = s.lines
  baud : t.baud = s.baud
  fieldTime : t.fieldTime = s.fieldTime
  ready : t.ready = s.ready
  motion : t.motion = s.motion
  link : Posted s.link t.link

theorem Work.refl (s : State) : Work s s := ⟨rfl, rfl, rfl, rfl, rfl, rfl, rfl, rfl, rfl, rfl, Posted.refl _⟩

theorem Work.trans {s t u : State} (h : Work s t) (g : Work t u) : Work s u :=
  ⟨g.pending.trans h.pending, g.power.trans h.power, g.settings.trans h.settings, g.weather.trans h.weather,
   g.store.trans h.store, g.lines.trans h.lines, g.baud.trans h.baud, g.fieldTime.trans h.fieldTime,
   g.ready.trans h.ready, g.motion.trans h.motion, h.link.trans g.link⟩

/-- Work on stations and rings: no carriage and nothing of the Arbiter has changed. -/
structure StationWork (s t : State) : Prop extends Work s t where
  carriages : t.carriages = s.carriages
  arbiter : t.arbiter = s.arbiter
  freeCount : t.freeCount = s.freeCount

theorem StationWork.refl (s : State) : StationWork s s := ⟨Work.refl s, rfl, rfl, rfl⟩

theorem StationWork.trans {s t u : State} (h : StationWork s t) (g : StationWork t u) : StationWork s u :=
  ⟨h.toWork.trans g.toWork, g.carriages.trans h.carriages, g.arbiter.trans h.arbiter, g.freeCount.trans h.freeCount⟩

/-- Work on one carriage: no other carriage, no station and no ring has changed. -/
structure CarriageWork (c : Fin 6) (s t : State) : Prop extends Work s t where
  others : ∀ d, d ≠ c → t.car d = s.car d
  stations : t.stations = s.stations
  ringA : t.ringA = s.ringA
  ringB : t.ringB = s.ringB

theorem CarriageWork.refl (c : Fin 6) (s : State) : CarriageWork c s s :=
  ⟨Work.refl s, fun _ _ => rfl, rfl, rfl, rfl⟩

theorem CarriageWork.trans {c : Fin 6} {s t u : State} (h : CarriageWork c s t) (g : CarriageWork c t u) :
    CarriageWork c s u :=
  ⟨h.toWork.trans g.toWork, fun d x => (g.others d x).trans (h.others d x), g.stations.trans h.stations,
   g.ringA.trans h.ringA, g.ringB.trans h.ringB⟩

/-- A left fold of operations that each stand in a relation that composes stands in it. -/
theorem foldl_rel {α β : Type} (R : α → α → Prop) (refl : ∀ s, R s s) (trans : ∀ {s t u}, R s t → R t u → R s u)
    (f : α → β → α) (h : ∀ s x, R s (f s x)) : ∀ (xs : List β) (s : α), R s (xs.foldl f s)
  | [], s => refl s
  | x :: xs, s => trans (h s x) (foldl_rel R refl trans f h xs (f s x))

/-! ## What work on a carriage or on stations leaves readable -/

theorem Work.cfg {s t : State} (h : Work s t) (c : Fin 6) : t.cfg c = s.cfg c := by simp [State.cfg, h.settings]
theorem Work.stCfg {s t : State} (h : Work s t) (n : Fin 64) : t.stCfg n = s.stCfg n := by
  simp [State.stCfg, h.settings]
theorem Work.ringCfg {s t : State} (h : Work s t) (r : RingId) : t.ringCfg r = s.ringCfg r := by
  cases r <;> simp [State.ringCfg, h.settings]
theorem Work.home {s t : State} (h : Work s t) (n : Fin 64) : t.home n = s.home n := by simp [State.home, h.stCfg]
theorem Work.stationsOf {s t : State} (h : Work s t) (c : Fin 6) : t.stationsOf c = s.stationsOf c := by
  unfold State.stationsOf State.isStationOf; simp [h.stCfg]
theorem Work.response {s t : State} (h : Work s t) (c : Fin 6) : t.response c = s.response c := by
  simp [State.response, h.settings, h.weather]
theorem StationWork.car {s t : State} (h : StationWork s t) (c : Fin 6) : t.car c = s.car c := by
  simp [State.car, h.carriages]
theorem CarriageWork.st {c : Fin 6} {s t : State} (h : CarriageWork c s t) (n : Fin 64) : t.st n = s.st n := by
  simp [State.st, h.stations]
theorem CarriageWork.ring {c : Fin 6} {s t : State} (h : CarriageWork c s t) (r : RingId) : t.ring r = s.ring r := by
  cases r <;> simp [State.ring, h.ringA, h.ringB]

/-! ## Elementary updates -/

theorem StationWork.post (s : State) (e : Event) : StationWork s (s.post e) :=
  ⟨⟨rfl, rfl, rfl, rfl, rfl, rfl, rfl, rfl, rfl, rfl, Posted.post _ _ _⟩, rfl, rfl, rfl⟩

theorem StationWork.send (s : State) (p : Post) : StationWork s (s.send p) :=
  ⟨⟨rfl, rfl, rfl, rfl, rfl, rfl, rfl, rfl, rfl, rfl, Posted.refl _⟩, rfl, rfl, rfl⟩

theorem StationWork.modSt (s : State) (n : Fin 64) (f : Station → Station) : StationWork s (s.modSt n f) :=
  ⟨⟨rfl, rfl, rfl, rfl, rfl, rfl, rfl, rfl, rfl, rfl, Posted.refl _⟩, rfl, rfl, rfl⟩

theorem StationWork.modRing (s : State) (r : RingId) (f : Ring → Ring) : StationWork s (s.modRing r f) := by
  cases r <;> exact ⟨⟨rfl, rfl, rfl, rfl, rfl, rfl, rfl, rfl, rfl, rfl, Posted.refl _⟩, rfl, rfl, rfl⟩

theorem StationWork.posts (s : State) (ps : List Post) : StationWork s { s with posts := ps } :=
  ⟨⟨rfl, rfl, rfl, rfl, rfl, rfl, rfl, rfl, rfl, rfl, Posted.refl _⟩, rfl, rfl, rfl⟩

theorem CarriageWork.post (c : Fin 6) (s : State) (e : Event) : CarriageWork c s (s.post e) :=
  ⟨(StationWork.post s e).toWork, fun _ _ => rfl, rfl, rfl, rfl⟩

theorem CarriageWork.send (c : Fin 6) (s : State) (p : Post) : CarriageWork c s (s.send p) :=
  ⟨(StationWork.send s p).toWork, fun _ _ => rfl, rfl, rfl, rfl⟩

theorem CarriageWork.posts (c : Fin 6) (s : State) (ps : List Post) : CarriageWork c s { s with posts := ps } :=
  ⟨(StationWork.posts s ps).toWork, fun _ _ => rfl, rfl, rfl, rfl⟩

theorem CarriageWork.modCar (c : Fin 6) (s : State) (f : Carriage → Carriage) : CarriageWork c s (s.modCar c f) :=
  ⟨⟨rfl, rfl, rfl, rfl, rfl, rfl, rfl, rfl, rfl, rfl, Posted.refl _⟩,
   fun d h => s.car_modCar_other c d f (Ne.symm h), rfl, rfl, rfl⟩

theorem CarriageWork.arbiter (c : Fin 6) (s : State) (a : Arbiter) : CarriageWork c s { s with arbiter := a } :=
  ⟨⟨rfl, rfl, rfl, rfl, rfl, rfl, rfl, rfl, rfl, rfl, Posted.refl _⟩, fun _ _ => rfl, rfl, rfl, rfl⟩

theorem CarriageWork.freeCount (c : Fin 6) (s : State) (n : Nat) : CarriageWork c s { s with freeCount := n } :=
  ⟨⟨rfl, rfl, rfl, rfl, rfl, rfl, rfl, rfl, rfl, rfl, Posted.refl _⟩, fun _ _ => rfl, rfl, rfl, rfl⟩

/-! ## The service queue (R61 to R64) -/

theorem StationWork.promote (s : State) (r : RingId) : StationWork s (s.promote r) := by
  unfold State.promote
  split
  · split
    · exact .refl s
    · split
      · exact (StationWork.modRing s r _).trans (.modSt _ _ _)
      · exact .modRing s r _
  · exact .refl s

theorem StationWork.raiseRequest (s : State) (n : Fin 64) (k : ServiceKind) (d : Option ParamSet) :
    StationWork s (s.raiseRequest n k d) := by
  unfold State.raiseRequest
  dsimp only
  split
  · exact .modRing s _ _
  · split
    · exact .modSt s _ _
    · split
      · exact .modRing s _ _
      · exact (StationWork.modRing s _ _).trans (.modSt _ _ _)

theorem StationWork.dropRequests (s : State) (n : Fin 64) : StationWork s (s.dropRequests n) := by
  unfold State.dropRequests
  dsimp only
  split
  · exact ((StationWork.modRing s _ _).trans (.modSt _ _ _)).trans (.promote _ _)
  · exact (StationWork.modRing s _ _).trans (.modSt _ _ _)

/-! ## Station states -/

theorem StationWork.changeStation (s : State) (n : Fin 64) (c : Fin 6) (new : StationState) (reason : StationReason) :
    StationWork s (s.changeStation n c new reason) := by
  unfold State.changeStation
  dsimp only
  split
  · exact .refl s
  · split
    · exact (((StationWork.dropRequests s n).trans (.modSt _ _ _)).trans (.post _ _)).trans (.posts _ _)
    · exact ((StationWork.modSt s _ _).trans (.post _ _)).trans (.posts _ _)

theorem StationWork.enterStation (s : State) (n : Fin 64) (new : StationState) (reason : StationReason) :
    StationWork s (s.enterStation n new reason) := .changeStation s n _ new reason

theorem StationWork.putOut (s : State) (n : Fin 64) (c : Fin 6) (new : StationState) (reason : StationReason) :
    StationWork s (s.putOut n c new reason) :=
  ((StationWork.dropRequests s n).trans (.changeStation _ _ _ _ _)).trans (.modSt _ _ _)

theorem StationWork.enumerate (s : State) (n : Fin 64) : StationWork s (s.enumerate n) :=
  (StationWork.enterStation s n _ _).trans (.raiseRequest _ _ _ _)

theorem StationWork.loadPresent (s : State) (n : Fin 64) : StationWork s (s.loadPresent n) :=
  (StationWork.modSt s n _).trans (.raiseRequest _ _ _ _)

theorem StationWork.enterLoading (s : State) (n : Fin 64) : StationWork s (s.enterLoading n) :=
  (StationWork.enterStation s n _ _).trans (.loadPresent _ _)

theorem StationWork.driveStation (s : State) (n : Fin 64) : StationWork s (s.driveStation n) := by
  unfold State.driveStation
  split
  · exact (StationWork.enterStation s n _ _).trans (.modSt _ _ _)
  · exact .refl s

theorem StationWork.driveReady (s : State) (c : Fin 6) : StationWork s (s.driveReady c) :=
  foldl_rel StationWork .refl .trans _ .driveStation _ s

theorem StationWork.returnStation (s : State) (n : Fin 64) : StationWork s (s.returnStation n) := by
  unfold State.returnStation
  split
  · dsimp only
    split
    · exact .enterStation s n _ _
    · exact (StationWork.enterStation s n _ _).trans (.enterLoading _ _)
  · exact .refl s

theorem StationWork.returnReady (s : State) (c : Fin 6) : StationWork s (s.returnReady c) :=
  foldl_rel StationWork .refl .trans _ .returnStation _ s

/-! ## One carriage -/

theorem CarriageWork.publish (s : State) (c : Fin 6) : CarriageWork c s (s.publish c) := .modCar c s _

theorem CarriageWork.formTarget (s : State) (c : Fin 6) (x : Int) (p : Option Int) :
    CarriageWork c s (s.formTarget c x p) := by
  unfold State.formTarget
  dsimp only
  split
  · exact .modCar c s _
  · split
    · exact .modCar c s _
    · exact (CarriageWork.modCar c s _).trans (.freeCount c _ _)

theorem CarriageWork.dropTarget (s : State) (c : Fin 6) : CarriageWork c s (s.dropTarget c) := by
  unfold State.dropTarget
  dsimp only
  split
  · exact (CarriageWork.modCar c s _).trans (.publish _ c)
  · exact .modCar c s _

theorem CarriageWork.takeTask (s : State) (c : Fin 6) (t : Task) : CarriageWork c s (s.takeTask c t) := by
  unfold State.takeTask
  split
  · exact (CarriageWork.formTarget s c _ _).trans (.publish _ c)
  · dsimp only
    split
    · exact (CarriageWork.modCar c s _).trans (.dropTarget _ c)
    · exact .dropTarget s c

theorem CarriageWork.postCarriage (s : State) (c : Fin 6) (before : CarriageState) (reason : CarriageReason)
    (entries : List (Fin 16)) : CarriageWork c s (s.postCarriage c before reason entries) := .post c s _

theorem CarriageWork.enterState (s : State) (c : Fin 6) (new : CarriageState) (reason : CarriageReason) :
    CarriageWork c s (s.enterState c new reason) :=
  (CarriageWork.modCar c s _).trans (.postCarriage _ c _ _ _)

theorem CarriageWork.postMoveEnd (s : State) (c : Fin 6) (o : Order) (outcome : MoveOutcome) (trip : Option TripCause) :
    CarriageWork c s (s.postMoveEnd c o outcome trip) := .post c s _

theorem CarriageWork.endOrder (s : State) (c : Fin 6) (outcome : MoveOutcome) (trip : Option TripCause) :
    CarriageWork c s (s.endOrder c outcome trip) := by
  unfold State.endOrder
  split
  · exact ((CarriageWork.postMoveEnd s c _ _ _).trans (.modCar c _ _)).trans (.dropTarget _ c)
  · exact .refl c s

theorem CarriageWork.joinQueue (s : State) (c : Fin 6) : CarriageWork c s (s.joinQueue c) :=
  (CarriageWork.arbiter c s _).trans (.send c _ _)

theorem CarriageWork.leaveQueue (s : State) (c : Fin 6) : CarriageWork c s (s.leaveQueue c) :=
  (CarriageWork.arbiter c s _).trans (.send c _ _)

theorem CarriageWork.releaseGrant (s : State) (c : Fin 6) : CarriageWork c s (s.releaseGrant c) := by
  unfold State.releaseGrant
  split
  · exact (CarriageWork.arbiter c s _).trans (.send c _ _)
  · exact .refl c s

theorem CarriageWork.enterAwaitPower (s : State) (c : Fin 6) (o : Order) (reason : CarriageReason) :
    CarriageWork c s (s.enterAwaitPower c o reason) :=
  (((CarriageWork.modCar c s _).trans (.takeTask _ c _)).trans (.postCarriage _ c _ _ _)).trans (.joinQueue _ c)

theorem CarriageWork.beginStop (s : State) (c : Fin 6) (outcome : MoveOutcome) (reason : CarriageReason) :
    CarriageWork c s (s.beginStop c outcome reason) :=
  ((CarriageWork.endOrder s c _ _).trans (.modCar c _ _)).trans (.postCarriage _ c _ _ _)

theorem CarriageWork.trip (s : State) (c : Fin 6) (cause : TripCause) : CarriageWork c s (s.trip c cause) := by
  unfold State.trip
  dsimp only
  split
  · exact (((CarriageWork.leaveQueue s c).trans (.endOrder _ c _ _)).trans (.modCar c _ _)).trans
      (.postCarriage _ c _ _ _)
  · exact (((CarriageWork.releaseGrant s c).trans (.endOrder _ c _ _)).trans (.modCar c _ _)).trans
      (.postCarriage _ c _ _ _)

theorem CarriageWork.takeTrip (s : State) (c : Fin 6) (cause : TripCause) : CarriageWork c s (s.takeTrip c cause) := by
  unfold State.takeTrip
  split
  · exact .trip s c cause
  · exact .refl c s

theorem CarriageWork.resumeOrWait (s : State) (c : Fin 6) : CarriageWork c s (s.resumeOrWait c) := by
  unfold State.resumeOrWait
  split
  · split
    · exact .enterAwaitPower s c _ _
    · exact (CarriageWork.modCar c s _).trans (.postCarriage _ c _ _ _)
  · exact .refl c s

theorem CarriageWork.beginHold (s : State) (c : Fin 6) (cause : HoldCause) : CarriageWork c s (s.beginHold c cause) :=
  (CarriageWork.modCar c s _).trans (.postCarriage _ c _ _ _)

theorem CarriageWork.holdWaiting (s : State) (c : Fin 6) (cause : HoldCause) :
    CarriageWork c s (s.holdWaiting c cause) :=
  (((CarriageWork.leaveQueue s c).trans (.modCar c _ _)).trans (.dropTarget _ c)).trans (.postCarriage _ c _ _ _)

theorem CarriageWork.joinHold (s : State) (c : Fin 6) (cause : HoldCause) : CarriageWork c s (s.joinHold c cause) := by
  unfold State.joinHold
  split
  · exact .refl c s
  · exact (CarriageWork.modCar c s _).trans (.postCarriage _ c _ _ _)

theorem CarriageWork.takeHold (s : State) (c : Fin 6) (cause : HoldCause) : CarriageWork c s (s.takeHold c cause) := by
  unfold State.takeHold
  split
  · exact .beginHold s c cause
  · exact .beginHold s c cause
  · exact .beginHold s c cause
  · exact .holdWaiting s c cause
  · exact .joinHold s c cause
  · exact .joinHold s c cause
  · exact .refl c s
  · exact .refl c s
  · exact .refl c s

theorem CarriageWork.takeCleared (s : State) (c : Fin 6) (cause : HoldCause) :
    CarriageWork c s (s.takeCleared c cause) := by
  unfold State.takeCleared
  split
  · dsimp only
    split
    · split
      · exact (CarriageWork.modCar c s _).trans (.resumeOrWait _ c)
      · exact .modCar c s _
    · split
      · exact ((CarriageWork.modCar c s _).trans (.postCarriage _ c _ _ _)).trans (.resumeOrWait _ c)
      · exact (CarriageWork.modCar c s _).trans (.postCarriage _ c _ _ _)
  · exact .refl c s

/-! ## Both: an engine whose stations change state with it -/

theorem Work.enterReleasing (s : State) (c : Fin 6) (reason : CarriageReason) : Work s (s.enterReleasing c reason) :=
  ((CarriageWork.modCar c s _).trans (.postCarriage _ c _ _ _)).toWork.trans (StationWork.driveReady _ c).toWork

theorem Work.leaveStopping (s : State) (c : Fin 6) (p : Purpose) : Work s (s.leaveStopping c p) := by
  unfold State.leaveStopping
  split
  · exact ((CarriageWork.enterState s c _ _).toWork.trans (StationWork.returnReady _ c).toWork).trans
      (CarriageWork.releaseGrant _ c).toWork
  · dsimp only
    split
    · exact ((((CarriageWork.modCar c s _).trans (.dropTarget _ c)).trans (.postCarriage _ c _ _ _)).toWork.trans
        (StationWork.returnReady _ c).toWork).trans
        ((CarriageWork.releaseGrant _ c).trans (.resumeOrWait _ c)).toWork
    · exact ((((CarriageWork.modCar c s _).trans (.dropTarget _ c)).trans (.postCarriage _ c _ _ _)).toWork.trans
        (StationWork.returnReady _ c).toWork).trans (CarriageWork.releaseGrant _ c).toWork

/-! ## Between the blocks: sample sets, and what a ring's quiet or a CLEAR takes back -/

theorem CarriageWork.deliver (s : State) (c : Fin 6) (m : SampleSet) : CarriageWork c s (s.deliver c m) :=
  (CarriageWork.modCar c s _).trans (.send c _ _)

theorem StationWork.dropSamples (s : State) (r : RingId) : StationWork s (s.dropSamples r) := .posts s _

theorem StationWork.forgetLoss (s : State) (n : Fin 64) : StationWork s (s.forgetLoss n) := .modSt s n _

/-- R86: no sample set for a carriage of the ring is left. -/
theorem State.dropSamples_none (s : State) (r : RingId) (c : Fin 6) (m : SampleSet) (h : (s.cfg c).ring = r) :
    Post.sample c m ∉ (s.dropSamples r).posts := by
  simp [State.dropSamples, State.deliversTo, h]

/-- R183: an image whose check is formed is valid. -/
@[simp] theorem imageOf_valid (generation : Nat) (settings : Settings) : (imageOf generation settings).valid = true := by
  simp only [Image.valid, imageOf, decide_true]

@[simp] theorem imageOf_generation (g : Nat) (k : Settings) : (imageOf g k).generation = g := rfl
@[simp] theorem imageOf_settings (g : Nat) (k : Settings) : (imageOf g k).settings = k := rfl

end Sys2Proof.Machine
end

