-- ==== Sys2Proof/Tests/Slice0.lean ====
section
/-! SUPPORT. The model's own tests: ill-formed commands that the check refuses, single operations on the spec's worked
values, and for every statement of Obligations.lean with hypotheses a state and operands that meet them together. -/

namespace Sys2Proof.Tests

open Sys2Proof.Machine

set_option Elab.async false

/-! ## Well-formedness: an ill-formed term for each check -/

theorem test_plates_need_an_entry : (Instr.configPlates 0 (.fields ⟨0, 0, []⟩)).wellFormed = false := by decide
theorem test_plates_take_20_entries :
    (Instr.configPlates 0 (.fields ⟨0, 0, List.replicate 21 ⟨1, 0, 1⟩⟩)).wellFormed = false ∧
    (Instr.configPlates 0 (.fields ⟨0, 0, List.replicate 20 ⟨1, 0, 1⟩⟩)).wellFormed = true := by decide
theorem test_retire_is_not_restore :
    (Instr.retire 0 (.fields ⟨0, 1⟩)).wellFormed = false ∧ (Instr.restore 0 (.fields ⟨0, 0⟩)).wellFormed = false := by
  decide
theorem test_assigned_kind_is_no_unassigned_kind :
    (Instr.unassignedOrderKind 0x10 0).wellFormed = false ∧ (Instr.unassignedOrderKind 0x40 0).wellFormed = false ∧
    (Instr.unassignedOrderKind 0x05 0).wellFormed = true := by decide
theorem test_order_kind_is_an_order :
    (Instr.notAnOrder 0x3F 0).wellFormed = false ∧ (Instr.notAnOrder 0x40 0).wellFormed = true := by decide
theorem test_engine_causes_are_not_posted : (Instr.tripCause 0 .skew).wellFormed = false := by decide

/-! ## Single operations on worked values -/

/-- R1: halves away from zero. -/
theorem test_rounding : rounded 5 2 = 3 ∧ rounded (-5) 2 = -3 ∧ rounded 4 3 = 1 ∧ rounded (-4) 3 = -1 ∧
    rounded 0 7 = 0 := by
  decide

theorem test_integer_square_root : isqrt 2400000 = 1549 ∧ isqrt 2399400 = 1548 ∧ isqrt 0 = 0 ∧ isqrt 99 = 9 := by
  decide +kernel

/-- R168. -/
theorem test_crc : crc16 [0x31, 0x32, 0x33, 0x34, 0x35, 0x36, 0x37, 0x38, 0x39] = 0x29B1 := by decide +kernel

/-- Chapter 6, the worked case: rails 44,997 and 45,025 have P 45,011 and S 28. -/
theorem test_position_and_skew : positionAndSkew [44997, 45025] = some (45011, 28) := by decide +kernel

/-- R116: the rates of the table at 40 ms. -/
theorem test_increments : stepIncrement 24 40 = 1 ∧ stepIncrement 100 40 = 4 ∧ stepIncrement 60 20 = 1 := by decide

/-- R145: a carriage joins behind the others of its class and before the next class. -/
theorem test_grant_order :
    (insertWaiting ⟨5, 1, 10, 3, 0⟩ [⟨0, 0, 10, 0, 0⟩, ⟨1, 1, 10, 1, 0⟩, ⟨2, 2, 10, 2, 0⟩]).map Waiting.carriage =
      [0, 1, 5, 2] := by decide

/-- R157: a mean needs 30 valid values; the gust looks at the newest 3. -/
theorem test_window_values :
    windowMean (List.replicate 29 ⟨90, true⟩) = none ∧ windowMean (List.replicate 30 ⟨90, true⟩) = some 90 ∧
    windowGust [⟨200, true⟩, ⟨10, true⟩, ⟨20, true⟩, ⟨30, false⟩] = some 20 := by decide +kernel

/-- R157: an anemometer with a mean but no gust takes no part in the site mean. -/
theorem test_site_values :
    let site : SiteSettings := { enabled := #v[true, true, false, true] }
    let calm : Anemometer := { window := List.replicate 60 ⟨20, true⟩ }
    let mute : Anemometer := { window := List.replicate 57 ⟨90, true⟩ ++ List.replicate 3 ⟨751, false⟩ }
    windowMean mute.window = some 90 ∧ siteValue site #v[calm, mute, calm, {}] windowMean = some 20 ∧
    siteValue site #v[mute, mute, calm, {}] windowMean = none ∧
    siteValue site #v[calm, mute, mute, calm] windowGust = some 20 := by decide +kernel

/-- R172: clear is the word 0 of an exclusion, IMPLAUSIBLE 1; four anemometers are a list with its count. -/
theorem test_field_coding :
    putExclusion none = [0] ∧ putExclusion (some .implausible) = [1] ∧ putExclusion (some .unreferenced) = [4] ∧
    (putSiteReport ⟨{ level := 0, wet := false }, {}, Vector.replicate 6 #v[⟨.none, 1⟩, ⟨.cap, 2⟩, ⟨.hold, 3⟩]⟩)[9]? =
      some 4 := by decide +kernel

/-- R5, R12: P and S when the rail count changes. -/
theorem test_rail_count_change :
    let k : Carriage := { position := some 5004, skew := some 8, rails := #v[{ mean := some 5000 }, { mean := some 5008 }, {}, {}] }
    (k.resize 2 1).position = some 5000 ∧ (k.resize 2 1).skew = some 0 ∧ (k.resize 2 3).position = none ∧
    (k.resize 2 3).skew = none ∧ (k.resize 3 2).skew = some 8 := by decide +kernel

/-- R118: from 100 mm/s under a limit of 250 with inc 4, dec 3 and a braking speed of 102. -/
theorem test_ramped_speed : rampedSpeed 250 100 4 3 20 (some 102) = 102 ∧ rampedSpeed 250 100 4 3 20 (some 90) = 97 ∧
    rampedSpeed 250 100 4 3 20 none = 104 := by decide

/-- R125: the trim of a leading rail slows it, and never reverses it. -/
theorem test_trimmed_speed : trimmedSpeed 100 8 25 = 92 ∧ trimmedSpeed 5 20 25 = 0 ∧ trimmedSpeed (-100) (-8) 25 = -92 ∧
    trimmedSpeed 0 20 25 = 0 := by decide

/-! ## States -/

/-- A state whose carriage 0 has another record. -/
def withCar (k : Carriage) (s : State) : State := { s with carriages := s.carriages.set 0 k }

/-- A READY station that contributes to rail 0 of carriage 0. -/
def readyStation : Station :=
  { state := .ready, identity := some ⟨7, 300, 60, 250, 200, none⟩, reported := some ⟨⟨0x23, 0, 0, 0, 0, 0, 0⟩, 1⟩,
    reckoning := { kind := .referenced, base := some (.seed 5000), lastPosition := some 5000 } }

/-- Carriage 0 enabled on ring A with one rail and one station, in calm air, with power for it. -/
def work : State :=
  { State.reset with
    settings :=
      { carriages := (Vector.replicate 6 ({} : CarriageConfig)).set 0 { enabled := true, skewWarn := 20, skewTrip := 60 }
        stations := (Vector.replicate 64 ({} : StationConfig)).set 0 { enabled := true }
        budget := 100 }
    carriages := (Vector.replicate 6 ({} : Carriage)).set 0
      { position := some 5000, skew := some 0, rails := #v[{ mean := some 5000, contributors := 1 }, {}, {}, {}] }
    stations := (Vector.replicate 64 ({} : Station)).set 0 readyStation
    ringA := { state := .closed, roundTimer := some 40000 }
    weather := { level := 0, target := some 0, wet := false } }

/-- Carriage 0 of `work` with its record changed. -/
def carry (f : Carriage → Carriage) : State := withCar (f (work.car 0)) work

/-- An order to 9,000 mm. -/
def order9 : Order := ⟨7, .move 9000, 100, false⟩

/-- The same station DRIVING. -/
def driving (s : State) : State :=
  { s with stations := s.stations.set 0 { readyStation with state := .driving } }

/-- `s` with a sample set for carriage 0 waiting. -/
def sampled (m : SampleSet) (s : State) : State := { s with posts := [.grantAttempt, .sample 0 m] }

/-- The sample set of a carriage at p with skew 0. -/
def sampleAt (p : Int) : SampleSet :=
  { p := some p, s := some 0, rails := Vector.replicate 4 {}, largestSpeed := none, travelled := none, trip := none }

/-- A MOVING carriage 0 under an order. -/
def moving (o : Order) (v : Int) : State :=
  driving (carry fun k => { k with state := .moving, order := some o, vCmd := v })

/-- 6 answers queued and one being sent: 7 outstanding. -/
def seven : State :=
  { State.reset with link := { answers := List.replicate 6 ⟨0x41, 0, .ok, .none⟩,
                                sending := some (.answer ⟨0x41, 0, .ok, .none⟩) } }

/-- 8 answers outstanding. -/
def eight : State :=
  { State.reset with link := { answers := List.replicate 7 ⟨0x41, 0, .ok, .none⟩,
                                sending := some (.answer ⟨0x41, 0, .ok, .none⟩) } }

/-- A round of ring A in flight on a ring of one node. -/
def flight (open_ : Bool) (s : State) : State :=
  { s with settings := { s.settings with ringA := { s.settings.ringA with nodes := 1 } }
           ringA := { s.ringA with inFlight := some ⟨5, open_, 0, 0, none, [⟨.idleBraked, 0⟩], none, none⟩ } }

/-- A copy of that round with its one slot's status. -/
def copy (status : Byte) : List Byte :=
  [1, 1, 0, 5] ++ List.replicate 8 0 ++ [1] ++ List.replicate 29 0 ++ [0, 0, 0, status] ++ List.replicate 12 0

/-- The reset state with another Link Unit. -/
def linked (l : Link) : State := { State.reset with link := l }

theorem takes_of (s : State) (h : (decide (s.power = .running ∧ s.link.outstanding < answerCapacity ∧
    s.link.restartPending = false)) = true) : s.takesOrders := by
  unfold State.takesOrders
  exact of_decide_eq_true h

/-! ## The block, its queue and its resets -/

theorem witness_StepRunsTheFrontCommand : { State.reset with pending := [.frameGap, .frameSent] }.pending =
    .frameGap :: [.frameSent] := rfl
theorem witness_EmptyQueueLetsTimePass :
    work.pending = [] ∧ work.power = .running ∧ (work.ring .a).roundTimer = some 40000 ∧
    (({ work with ringA := { state := .closed, roundTimer := some 0 } } : State).ring .a).roundTimer = some 0 ∧
    (linked { silence := .running 0 }).link.silence = .running 0 ∧ (linked {}).link.silence = .disarmed ∧
    (linked { silence := .expired }).link.silence = .expired ∧
    ({ work with power := .held } : State).power ≠ .running := by decide +kernel
theorem witness_EveryCommandAnswersNext : ∃ t, exec .frameGap State.reset = .next t := ⟨_, rfl⟩
theorem witness_NothingHappensWhileNotRunning :
    ({ work with power := .held } : State).power ≠ .running ∧ ({ work with power := .off } : State).power ≠ .running ∧
    switchesModule .estopOn = false ∧ work.power ≠ .off := by decide +kernel
theorem witness_ColdStartLoadsTheStore_blank : State.reset.store.slot0 = none ∧ State.reset.store.slot1 = none ∧
    State.reset.power ≠ .off := by decide +kernel
/-- An image whose check does not agree is not valid, and both slots may hold one. -/
theorem witness_ColdStartLoadsTheStore_invalid :
    ({ imageOf 3 {} with check := (imageOf 3 {}).check + 1 } : Image).valid = false := by
  simp [Image.valid, imageOf]
theorem witness_ColdStartLoadsTheStore_tie :
    let s : State := { work with store := { slot0 := some (imageOf 3 {}), slot1 := some (imageOf 3 work.settings) } }
    s.store.slot0 = some (imageOf 3 {}) ∧ (imageOf 3 {}).valid = true ∧
    ∀ y, s.store.slot1 = some y → y.valid = true → y.generation ≤ (imageOf 3 {}).generation := by
  refine ⟨rfl, imageOf_valid _ _, fun y h _ => ?_⟩
  have : y = imageOf 3 work.settings := (Option.some.inj h).symm
  subst this; simp
theorem witness_ColdStartLoadsTheStore_newer :
    let s : State := { work with store := { slot0 := some (imageOf 3 {}), slot1 := some (imageOf 4 work.settings) } }
    s.store.slot1 = some (imageOf 4 work.settings) ∧ (imageOf 4 work.settings).valid = true ∧
    ∀ x, s.store.slot0 = some x → x.valid = true → x.generation < (imageOf 4 work.settings).generation := by
  refine ⟨rfl, imageOf_valid _ _, fun x h _ => ?_⟩
  have : x = imageOf 3 {} := (Option.some.inj h).symm
  subst this; simp
theorem witness_RestartResetsAtRest :
    work.takesOrders ∧ (∀ c, (work.car c).state = .parked ∨ (work.car c).state = .held ∨
      (work.car c).state.isTripped = true) ∧
    (carry fun k => { k with state := .awaitPower }).takesOrders ∧
    ((carry fun k => { k with state := .awaitPower }).car 0).state = .awaitPower := by
  refine ⟨takes_of _ (by decide +kernel), by decide +kernel, takes_of _ (by decide +kernel), by decide +kernel⟩
theorem witness_RestartResetsAtRest_reset :
    let s : State := { work with link := { restartPending := true } }
    s.power = .running ∧ s.link.restartPending = true ∧ s.link.answers = [] ∧ s.link.sending = none := by
  decide +kernel

/-! ## Frames, answers, notices and the store -/

theorem witness_OrdersAreAnswered : seven.takesOrders ∧ orderFrame (.presence 9 (.fields ())) = some (0x01, 9) ∧
    orderFrame (.stop 9 .wrongLength) = some (0x12, 9) ∧ wrongLength (.stop 9 .wrongLength) = true ∧
    orderFrame (.unassignedOrderKind 5 9) = some (5, 9) :=
  ⟨takes_of _ (by decide +kernel), rfl, rfl, rfl, rfl⟩
theorem witness_RefusedOrdersChangeNothing :
    ∃ t, exec (.configPower 9 (.fields 20001)) State.reset = .next t ∧
      Answered State.reset t 0x0D 9 .refusedRange .none ∧ Result.done .refusedRange = false ∧
      State.reset.takesOrders := by
  refine ⟨_, rfl, ?_, rfl, takes_of _ (by decide +kernel)⟩
  show _ = _
  decide +kernel
theorem witness_FailedFramesAreSetAside : eight.power = .running ∧ 8 ≤ eight.link.outstanding ∧
    (orderFrame (.presence 0 (.fields ()))).isSome = true := by decide +kernel
theorem witness_TransmitterChoosesInOrder :
    (linked { answers := [⟨0x41, 0, .ok, .none⟩] }).link.answers = ⟨0x41, 0, .ok, .none⟩ :: [] ∧
    (linked { urgent := [.rain true] }).link.answers = [] ∧
    (linked { urgent := [.rain true] }).link.urgent = .rain true :: [] ∧
    (linked { routine := [.rain true] }).link.urgent = [] ∧
    (linked { routine := [.rain true] }).link.routine = .rain true :: [] ∧
    (linked {}).link.routine = [] ∧ (linked {}).power = .running ∧ (linked {}).link.restartPending = false := by
  decide +kernel
theorem witness_PostingAnEvent :
    ({} : NoticeSettings).classes[(Event.emergencyStop true).kindNumber] = 2 ∧
    ({} : NoticeSettings).classes[(Event.rain true).kindNumber] = 1 ∧ ({} : NoticeSettings).master = true ∧
    (List.replicate 15 (Event.rain true)).length < 16 ∧ 16 ≤ (List.replicate 16 (Event.rain true)).length ∧
    (List.replicate 47 (Event.rain true)).length < 48 ∧ 48 ≤ (List.replicate 48 (Event.rain true)).length ∧
    Flag.ofModule .rainOn ∈ (Event.rain true).flags := by decide +kernel
theorem witness_takesOrders : State.reset.takesOrders ∧ work.takesOrders :=
  ⟨takes_of _ (by decide +kernel), takes_of _ (by decide +kernel)⟩
theorem witness_NoticeSettingsAndSilence :
    (noticeSettingsOf ⟨1, Vector.replicate 16 2, 0⟩).isSome = true ∧
    (noticeSettingsOf ⟨0, Vector.replicate 16 0, 10000⟩).isSome = true ∧
    (noticeSettingsOf ⟨1, Vector.replicate 16 2, 99⟩).isSome = false ∧
    (linked { silence := .running 0 }).link.silence = .running 0 ∧ State.reset.store.write = none := by decide +kernel
theorem witness_QueriesAnswerTheRecords : (15 : Byte).toNat ≤ 15 ∧ (0 : Byte).toNat ≤ 15 := by decide
theorem witness_FramesAreReadBack : (List.replicate 198 (7 : Byte)).length ≤ 198 := by decide +kernel

/-- A receiver that hunts, and one inside a frame. -/
theorem witness_FramesAreReadBack_receivers :
    State.reset.power = .running ∧ State.reset.link.receiver = .hunting ∧
    (State.reset.withReceiver (.taking [2, 1])).power = .running ∧
    (State.reset.withReceiver (.taking [2, 1])).link.receiver = .taking [2, 1] := by decide +kernel

/-- R167: A5 hex is sent as start bit, 1 0 1 0 0 1 0 1, stop bit; without its stop bit it is a line error. -/
theorem test_character_levels :
    charLevels 0xA5 = [false, true, false, true, false, false, true, false, true, true] ∧
    lineEvents 1152 0 (charLevels 0x01 ++ [true] ++ charLevels 0x80) = [.char 0x01, .char 0x80] ∧
    lineEvents 1152 0 [false, true, false, true, false, false, true, false, true, false] = [.error] ∧
    gapLimit .b57600 = 1152 := by decide +kernel

/-- R169: a line that idles for more than the limit brings one gap. -/
theorem test_idle_line :
    lineEvents 3 0 (List.replicate 3 true) = [] ∧ lineEvents 3 0 (List.replicate 9 true) = [.gap] := by decide +kernel

/-- R182: the characters that came before the reset of a RESTART are dropped with it. -/
theorem test_reset_drops_the_frame :
    (match exec (.restartReset ⟨false, false⟩)
        { State.reset with link := { State.reset.link with receiver := .taking [2, 1], restartPending := true } } with
      | .next t => decide (t.link.receiver = .hunting)
      | .fault _ => false
      | .refused _ => false) = true := by decide +kernel
theorem witness_SaveAndItsEnd :
    (∀ c, (work.car c).state = .parked ∨ (work.car c).state = .held ∨ (work.car c).state.isTripped = true) ∧
    work.store.write = none ∧ work.store.generation ≠ 4294967295 ∧
    ({ work with store := { generation := 4294967294 } } : State).store.generation ≠ 4294967295 ∧
    ({ work with store := { write := some ⟨1, {}, 0⟩ } } : State).store.write = some ⟨1, {}, 0⟩ := by decide +kernel

/-! ## The lines and the configuration -/

theorem witness_EstopAndRainLines :
    work.power = .running ∧ work.lines.estop = false ∧ ((moving order9 50).car 0).state.inMotion = true ∧
    ((carry fun k => { k with state := .awaitPower }).car 0).state = .awaitPower ∧
    (work.car 0).state.inMotion = false ∧ (work.car 0).state ≠ .awaitPower ∧
    ({ work with lines := ⟨true, false⟩ } : State).lines.estop = true ∧ work.lines.rain = !true ∧
    ({ work with lines := ⟨false, true⟩ } : State).lines.rain = !false := by decide +kernel

/-- The defaults of R8 for carriage 0, with a rail count. -/
def carriageBody (rails : Byte) : CarriageBody :=
  { carriage := 0, enabled := 1, kind := 0, ring := 0, railCount := rails, travelMin := 0, travelMax := 250000,
    refuge := 0, maxSpeed := 600, creepSpeed := 50, acceleration := 100, deceleration := 100, trimGain := 2000,
    trimLimit := 100, skewWarn := 500, skewTrip := 1000, deviationLimit := 50, slipLimit := 200,
    arrivalTolerance := 100, standstillBand := 3, overtravelMargin := 200, reversalDwell := 2000,
    releaseTimeout := 10000, setTimeout := 100, blindTolerance := 5, minStations := 6, blockTimeout := 3600,
    grantTimeout := 600, priority := 3, resumeWind := 0, resumeLoss := 1 }

theorem witness_ConfigCarriageReplacesTheRecord :
    ((carriageConfigOf (carriageBody 1)).any fun k => k.agrees && !work.conflictsWithStations 0 k) = true ∧
    ((carriageConfigOf (carriageBody 4)).any fun k => k.agrees && !work.conflictsWithStations 0 k) = true ∧
    (carriageConfigOf (carriageBody 5)).isNone = true ∧ (work.car 0).state = .parked ∧ work.anyDriving 0 = false ∧
    carriageByte 0 = (carriageBody 1).carriage ∧ work.store.write = none := by decide +kernel

/-- `s` with a rail count of carriage 0. -/
def railed (n : Nat) (s : State) : State :=
  { s with settings := { s.settings with carriages := s.settings.carriages.set 0 { s.cfg 0 with railCount := n } } }
/-- R12: a rail count lowered to 1, lowered to 2, and kept. -/
theorem witness_ConfigCarriageReplacesTheRecord_rails :
    ((carriageConfigOf (carriageBody 1)).any fun k => k.agrees && !(railed 3 work).conflictsWithStations 0 k &&
      decide (k.railCount = 1) && decide (1 < ((railed 3 work).cfg 0).railCount)) = true ∧
    ((carriageConfigOf (carriageBody 2)).any fun k => k.agrees && !(railed 3 work).conflictsWithStations 0 k &&
      decide (k.railCount = 2) && decide (2 < ((railed 3 work).cfg 0).railCount)) = true ∧
    (work.cfg 0).railCount = 1 ∧ ((railed 3 work).car 0).position = some 5000 := by decide +kernel

/-- R11: the READY station of carriage 0, rated 300 mm/s, is given a new set; a rating of 49 mm/s is refused for the
raised creep speed of 50, one of 50 is not; a set that keeps its value is left. -/
theorem witness_ConfigCarriageReplacesTheRecord_stations :
    work.isStationOf 0 0 = true ∧ work.isStationOf 0 1 = false ∧ (work.st 0).state = .ready ∧
    ((work.st 0).identity.map Identity.ratedSpeed).getD 0 = 300 ∧ (work.cfg 0).creepSpeed < 50 ∧
    ¬ (300 < 50) ∧ 49 < 50 ∧ ¬ (50 < 50) ∧ (work.cfg 0).maxSpeed ≠ 600 ∧
    (work.st 0).params ≠ some ⟨min (600 + 100) 300, 5 * 40, 500⟩ ∧
    ((({ work with stations := work.stations.set 0 { readyStation with params := some ⟨300, 200, 500⟩ } } : State).st 0).params =
      some ⟨min (600 + 100) 300, 5 * 40, 500⟩) := by decide +kernel

/-- An order that may be accepted for station n: its clauses by the old and the new configuration. -/
def stationAccepted (s : State) (n : Fin 64) (k : StationConfig) : Bool :=
  !s.concernedMoving n k && !s.stationConflicts n k && decide (s.store.write = none)

theorem witness_ConfigStationMovesTheState :
    stationConfigOf ⟨1, 1, 0, 0, 39, 50000⟩ = some ⟨true, 0, 0, 39, 50000⟩ ∧
    stationAccepted work 1 ⟨true, 0, 0, 39, 50000⟩ = true ∧ (work.stCfg 1).enabled = false ∧
    stationAccepted work 1 {} = true ∧ stationAccepted work 0 {} = true ∧ (work.stCfg 0).enabled = true ∧
    stationAccepted work 0 ⟨true, 0, 0, 1, 0⟩ = true ∧ (work.st 0).state ≠ .retired ∧
    stationAccepted work 0 ⟨true, 0, 0, 0, 7⟩ = true ∧
    (({ work with stations := work.stations.set 0 { state := .retired } } : State).st 0).state = .retired := by
  decide +kernel

theorem witness_ConfigPlatesInterlockAndPower :
    plateEntriesOf [⟨1, 300000, 15⟩, ⟨0, 0, 0⟩] = some [some ⟨1, 300000, 15⟩, none] ∧
    plateEntryOf ⟨1, 300001, 15⟩ = none ∧ plateEntryOf ⟨1, 0, 0⟩ = none ∧ plateEntryOf ⟨1, 0, 16⟩ = none ∧
    (126 : Byte).toNat + [some (⟨1, 300000, 15⟩ : Plate), none].length ≤ 128 ∧
    repeats (plateIds (writePlates work.settings.plates[(0 : Fin 6)] 126 [some ⟨1, 300000, 15⟩, none])) = false ∧
    interlockOf ⟨15, 1, 0, 0, 300000, 5, 1, 0⟩ = some ⟨true, 0, .outward, 300000, 5, .inward, 0⟩ ∧
    work.entryMoving work.settings.interlocks[(15 : Fin 16)] = false ∧
    work.entryMoving ⟨true, 0, .outward, 300000, 5, .inward, 0⟩ = false ∧ (20000 : Half).toNat ≤ 20000 ∧
    work.arbiter.grantedSum ≤ (0 : Half).toNat ∧ (∀ w ∈ work.arbiter.queue, w.need ≤ (0 : Half).toNat) ∧
    work.settings.budget < (20000 : Half).toNat := by decide +kernel

theorem witness_ConfigWeatherReplacesItsPart :
    ((siteSettingsOf ⟨0xFF, #v[1, 0, 0, 1], #v[4095, 1, 256, 256], #v[100, 150, 750], #v[70, 110, 160], 20, 60, 3, 0⟩).any
      SiteSettings.agrees) = true ∧
    ((responsesOf ⟨0, #v[0, 1, 3], #v[1, 50, 100]⟩).any responsesAgree) = true ∧
    ((responsesOf ⟨0, #v[3, 1, 0], #v[1, 50, 100]⟩).any responsesAgree) = false := by decide +kernel

/-- `s` while a SAVE is written. -/
def saving (s : State) : State := { s with store := { write := some ⟨1, {}, 0⟩ } }

/-- The refusals of the configuration orders at the edges of their numbers: busy, not PARKED, and out of range. -/
theorem witness_ConfigurationIsRefused :
    (saving work).store.write.isSome = true ∧ work.store.write = none ∧ (5 : Byte).toNat < 6 ∧ 6 ≤ (6 : Byte).toNat ∧
    (63 : Byte).toNat < 64 ∧ 64 ≤ (64 : Byte).toNat ∧ (15 : Byte).toNat < 16 ∧ 16 ≤ (16 : Byte).toNat ∧
    (20000 : Half).toNat ≤ 20000 ∧ 20000 < (20001 : Half).toNat ∧ 2 ≤ (2 : Byte).toNat ∧ (1 : Byte).toNat ≤ 1 ∧
    ((moving order9 50).car 0).state ≠ .parked ∧ ((driving work).st 0).state = .driving ∧
    (driving work).isStationOf 0 0 = true ∧ ((driving work).car 0).state = .parked ∧ (work.stCfg 0).enabled = true ∧
    stationConfigOf ⟨0, 0, 0, 0, 0, 0⟩ = some {} ∧
    (interlockOf ⟨15, 1, 0, 0, 300000, 5, 1, 0⟩).isSome = true ∧
    ((responsesOf ⟨0, #v[0, 1, 3], #v[1, 50, 100]⟩).any responsesAgree) = true ∧ (work.ring .a).state ≠ .quiet ∧
    (ringSettingsOf ⟨0, 80, 40, 5000, 0, 20⟩).isSome = true ∧
    ({ work with store := { generation := 4294967295 } } : State).store.generation = 4294967295 := by decide +kernel
/-- A field out of range or fields that disagree, in each configuration order. -/
theorem witness_ConfigurationIsRefused_range :
    carriageConfigOf (carriageBody 5) = none ∧ (carriageConfigOf { carriageBody 1 with creepSpeed := 50, maxSpeed := 49 }).any
      (fun k => !k.agrees) = true ∧ stationConfigOf ⟨0, 1, 0, 0, 40, 0⟩ = none ∧
    128 < (127 : Byte).toNat + [(⟨1, 0, 1⟩ : PlateBody), ⟨2, 0, 1⟩].length ∧ 127 < (128 : Byte).toNat ∧
    plateEntriesOf [⟨1, 300001, 15⟩] = none ∧
    ¬ (plateIds (writePlates work.settings.plates[(0 : Fin 6)] 0 [some ⟨1, 0, 15⟩, some ⟨1, 5, 15⟩])).Nodup ∧
    interlockOf ⟨15, 1, 0, 2, 0, 5, 1, 0⟩ = none ∧ (interlockOf ⟨15, 1, 5, 0, 0, 5, 1, 0⟩).isSome = true ∧
    siteSettingsOf ⟨0xFF, #v[1, 0, 0, 1], #v[0, 1, 256, 256], #v[100, 150, 750], #v[70, 110, 160], 20, 60, 3, 0⟩ = none ∧
    (siteSettingsOf ⟨0xFF, #v[1, 0, 0, 1], #v[1, 1, 256, 256], #v[150, 150, 750], #v[70, 110, 160], 20, 60, 3, 0⟩).any
      (fun k => !k.agrees) = true ∧
    (responsesOf ⟨5, #v[1, 0, 3], #v[1, 50, 100]⟩).any (fun k => decide (k[1].action.severity < k[0].action.severity)) = true ∧
    noticeSettingsOf ⟨1, Vector.replicate 16 3, 0⟩ = none ∧ ringSettingsOf ⟨0, 11, 40, 5000, 0, 20⟩ = none ∧
    6 ≤ (6 : Byte).toNat ∧ (6 : Byte) ≠ 0xFF := by decide +kernel
/-- `work` with station 0 on rail 1 of two, at node 3 of its ring. -/
def placed : State :=
  let s := railed 2 work
  { s with settings := { s.settings with stations := s.settings.stations.set 0 { enabled := true, rail := 1, node := 3 } } }
/-- `work` with stations 0 to 23 enabled on carriage 0. -/
def crowded : State :=
  { work with settings := { work.settings with stations := Vector.ofFn fun n => { enabled := decide (n.val < 24) } } }
/-- R10, R17, R42: the conflicts of a carriage record and of a station, and a ring with a carriage in motion. -/
theorem witness_ConfigurationIsRefused_conflicts :
    placed.isStationOf 0 0 = true ∧ (carriageConfigOf (carriageBody 1)).any (fun k => k.agrees && decide (k.railCount ≤ 1)) = true ∧
    (placed.stCfg 0).rail.val = 1 ∧ (carriageConfigOf { carriageBody 2 with ring := 1 }).any
      (fun k => k.agrees && decide (k.ring ≠ (placed.cfg 0).ring)) = true ∧
    stationConfigOf ⟨1, 1, 0, 2, 3, 0⟩ = some ⟨true, 0, 2, 3, 0⟩ ∧ (placed.cfg 0).railCount ≤ 2 ∧
    placed.onRing (placed.cfg 0).ring 0 = true ∧ (placed.stCfg 0).node = 3 ∧
    (({ placed with settings := { placed.settings with ringA := { nodes := 39 } } } : State).ringCfg .a).nodes ≤ (39 : Fin 40).val ∧
    24 ≤ (allStations.filter fun m => crowded.isStationOf 0 m && decide (m ≠ 24)).length ∧
    ¬ 24 ≤ (allStations.filter fun m => crowded.isStationOf 0 m && decide (m ≠ 23)).length ∧
    ((moving order9 50).ring .a).state ≠ .quiet ∧ ((moving order9 50).cfg 0).ring = .a ∧
    ((moving order9 50).car 0).state ≠ .parked ∧ ((moving order9 50).car 0).state.isTripped = false := by decide +kernel
theorem witness_ConfigurationIsRefused_takesOrders :
    (saving work).takesOrders ∧ (moving order9 50).takesOrders ∧ (driving work).takesOrders :=
  ⟨takes_of _ (by decide +kernel), takes_of _ (by decide +kernel), takes_of _ (by decide +kernel)⟩

/-! ## Orders of motion -/

/-- The conditions of R91 for a task on carriage 0. -/
def mayStart (s : State) (t : Task) (counted : StationState) : Bool :=
  (s.cfg 0).enabled && !s.ringOut 0 && !s.lines.estop && s.railsUsable 0 t counted && s.windAllows 0 t &&
  decide (s.need 0 ≤ s.settings.budget)

theorem witness_MotionOrdersFromRest :
    let b : MoveBody := ⟨0, 9000, 100⟩
    b.carriage = carriageByte 0 ∧ clampInt (work.cfg 0).travelMin (work.cfg 0).travelMax b.target.toInt = 9000 ∧
    min b.speedLimit.toNat (work.cfg 0).maxSpeed = 100 ∧ b.speedLimit.toNat ≠ 0 ∧
    mayStart work (.move 9000) .ready = true ∧ mayStart work (.seek .outward 1) .ready = true ∧
    mayStart work (.seek .inward 20000) .ready = true ∧ (work.car 0).state = .parked ∧ work.active 0 = [] ∧
    (work.car 0).position = some 5000 ∧
    mayStart (carry fun k => { k with state := .held }) (.move 250000) .ready = true ∧
    ((carry fun k => { k with state := .held }).car 0).holds = {} := by decide +kernel
/-- R91: each check in turn decides, on one MOVE of carriage 0 to its target. -/
theorem witness_MotionOrdersAreChecked :
    work.acceptCheck 0 100 (.move 9000) = none ∧
    (withCar {} { work with settings := {} }).acceptCheck 0 100 (.move 9000) = some .refusedState ∧
    ({ work with ringA := { state := .down } } : State).acceptCheck 0 100 (.move 9000) = some .refusedState ∧
    ({ work with lines := ⟨true, false⟩ } : State).acceptCheck 0 100 (.move 9000) = some .refusedEstop ∧
    (carry fun k => { k with state := .tripped true }).acceptCheck 0 100 (.move 9000) = some .refusedState ∧
    (carry fun k => { k with state := .held, holds := { wind := true } }).acceptCheck 0 100 (.move 9000) =
      some .refusedWind ∧
    work.acceptCheck 0 0 (.move 9000) = some .refusedRange ∧
    (carry fun k => { k with rails := Vector.replicate 4 {} }).acceptCheck 0 100 (.move 9000) = some .refusedState ∧
    ({ work with weather := { level := 3, wet := false } } : State).acceptCheck 0 100 (.move 9000) = some .refusedWind ∧
    ({ work with settings := { work.settings with budget := 59 } } : State).acceptCheck 0 100 (.move 9000) =
      some .refusedPower ∧
    ({ work with settings := { work.settings with budget := 60 } } : State).acceptCheck 0 100 (.move 9000) = none := by
  decide +kernel

theorem witness_MoveSupersedesTheCurrentOrder :
    mayStart (moving order9 50) (.move 8000) .driving = true ∧ ((moving order9 50).car 0).order = some order9 ∧
    mayStart (carry fun k => { k with state := .awaitPower, order := some order9 }) (.move 8000) .ready = true ∧
    mayStart (moving order9 50) (.seek .inward 1) .driving = true ∧
    mayStart (driving (carry fun k => { k with state := .blocked, order := some order9, effectiveTarget := some 8000 }))
      (.seek .outward 20000) .driving = true ∧
    mayStart (carry fun k => { k with state := .awaitPower, order := some order9 }) (.seek .outward 1) .ready = true := by
  decide +kernel
/-- R93, R140: a SEEK accepted in BLOCKED has no target and restarts the block timer. -/
theorem test_seek_supersedes :
    let s := railed 1 (driving (carry fun k => { k with state := .blocked, order := some order9, effectiveTarget := some 8000 }))
    ∃ t, exec (.seek 9 (.fields ⟨0, 1, 500, 30⟩)) s = .next t ∧ (t.car 0).state = .blocked ∧
      (t.car 0).effectiveTarget = none ∧ (t.car 0).order = some ⟨9, .seek .inward 500, 30, false⟩ ∧
      t.link.flag (.ofCarriage 0 .ended) = true := by
  refine ⟨_, rfl, ?_⟩
  decide +kernel

/-- R94: carriage 0 stopping at the end of an order, in either stage. -/
theorem witness_MoveSupersedesTheCurrentOrder_stopping :
    mayStart (driving (carry fun k => { k with state := .stopping .ending .ramp, vCmd := 40 })) (.move 8000) .driving = true ∧
    mayStart (driving (carry fun k => { k with state := .stopping .ending .brake })) (.seek .inward 1) .driving = true := by
  decide +kernel

theorem witness_StopEndsTheOrder : RecordsSound State.reset ∧ RecordsSound (moving order9 50) ∧
    (moving order9 50).takesOrders := by
  refine ⟨?_, ?_, takes_of _ (by decide +kernel)⟩ <;> unfold RecordsSound Carriage.recordSound <;> decide +kernel

/-- Carriage 0 HELD without causes, with a resume record. -/
def heldWithRecord : State := carry fun k => { k with state := .held, resume := some ⟨order9, { wind := true }, none⟩ }

theorem witness_ResumeAndClear_resume :
    (heldWithRecord.car 0).resume = some ⟨order9, { wind := true }, none⟩ ∧ (heldWithRecord.car 0).holds = {} ∧
    mayStart heldWithRecord (.move 9000) .ready = true := by decide +kernel

theorem witness_ResumeAndClear_clear :
    ((carry fun k => { k with state := .tripped true }).car 0).state.isTripped = true ∧
    (∀ n, work.isStationOf 0 n = true → (work.st n).state.clearExamines = true →
      (work.st n).shows Slot.brakeSet = true) ∧
    (∀ n, work.isStationOf 0 n = true → (work.st n).state.isFault = true → (work.st n).faultStatus = false) ∧
    (work.car 0).state.isTripped = false := by decide +kernel
/-- `work` with another record of station 0. -/
def stationed (st : Station) : State := { work with stations := work.stations.set 0 st }
/-- R109: each condition of CLEAR fails for itself. -/
theorem witness_ResumeAndClear_refused :
    ({ work with lines := ⟨true, false⟩ } : State).lines.estop = true ∧
    ((stationed { readyStation with state := .driving, reported := none }).st 0).state.clearExamines = true ∧
    ((stationed { readyStation with state := .driving, reported := none }).st 0).shows Slot.brakeSet = false ∧
    ((stationed { state := .fault .drive, faultStatus := true }).st 0).state.isFault = true ∧
    ((stationed { state := .fault .drive, faultStatus := true }).st 0).faultStatus = true := by decide +kernel

/-! ## Stations and rings -/

theorem witness_StationServiceAndRingOrders_stations :
    (work.st 0).state ≠ .unused ∧ (work.st 0).state ≠ .retired ∧ (work.car (work.home 0)).state = .parked ∧
    (({ work with stations := work.stations.set 0 { state := .fault .load } } : State).st 0).state.isFault = true := by
  decide +kernel
theorem witness_StationServiceAndRingOrders_rings :
    (work.ring .a).state ≠ .quiet ∧
    (∀ c, (work.cfg c).ring = .a → (work.car c).state = .parked ∨ (work.car c).state.isTripped = true) ∧
    (work.ring .b).state = .quiet ∧ (ringSettingsOf ⟨1, 80, 40, 5000, 0, 20⟩).isSome = true ∧
    work.nodeBeyond .b 40 = false ∧ work.onRing .a 0 = true := by decide +kernel
theorem witness_RoundStartSendsTheNextRound :
    (work.ring .a).roundTimer.isSome = true ∧ (work.ring .a).inFlight = none ∧ (work.ring .a).queue = [] ∧
    ({ work with ringA := { work.ringA with queue := [⟨0, .identify, none, 0⟩] } } : State).ringA.queue =
      ⟨0, .identify, none, 0⟩ :: [] ∧ (work.ringCfg .a).nodes ≤ 40 ∧ work.occupant .a 0 = some 0 ∧
    work.occupant .a 39 = none ∧ (work.st 0).state.isDriven = false ∧ (work.st 0).state.isFault = false ∧
    ((moving order9 50).st 0).state.isDriven = true ∧
    ((moving order9 50).car 0).state.mayMove = true := by decide +kernel
theorem witness_TelegramLayout :
    ([⟨.run, -5⟩] : List Downlink)[0]? = some ⟨.run, -5⟩ ∧
    ((⟨5, false, 0, 0, none, [⟨.run, -5⟩], none, none⟩ : Round).telegram .a).length = 58 ∧
    (⟨5, false, 0, 0, some ⟨0, 3, .load, some ⟨300, 200, 500⟩, true⟩, [], none, none⟩ : Round).request =
      some ⟨0, 3, .load, some ⟨300, 200, 500⟩, true⟩ ∧
    ((flight true work).ring .a).inFlight = some ⟨5, true, 0, 0, none, [⟨.idleBraked, 0⟩], none, none⟩ ∧
    (work.ring .a).inFlight = none ∧ ({ work with power := .held } : State).power ≠ .running := by decide +kernel
theorem witness_InvalidCopiesAreDiscarded :
    (work.ring .a).inFlight = none ∧ ((flight false work).ring .a).inFlight.isSome = true ∧
    ((copy 0x23).drop 1).length ≠ 58 ∧ byteAt ((2 : Byte) :: (copy 0x23).drop 1) 0 ≠ 1 := by decide +kernel
/-- The hypotheses of the statements about a completion in CLOSED, for an empty slot and for filled ones. -/
theorem witness_ClosedRoundsComplete :
    ((flight false work).ring .a).inFlight =
      some ⟨5, false, 0, 0, none, [⟨.idleBraked, 0⟩], none, none⟩ ∧
    ((flight false work).ring .a).state = .closed ∧ ((flight false work).ringCfg .a).nodes = 1 ∧
    (copy 0).length = 58 ∧ (copy 0x23).length = 58 ∧ byteAt (copy 0x23) 0 = 1 ∧ halfAt (copy 0x23) 2 = 5 ∧
    (flight false work).occupant .a 0 = some 0 := by decide +kernel
/-- R46, R48: those hypotheses together. -/
theorem witness_awaitsCopy : (flight false (driving work)).awaitsCopy .a
    ⟨5, false, 0, 0, none, [⟨.idleBraked, 0⟩], none, none⟩ (copy 0x23) := by
  unfold State.awaitsCopy; decide +kernel
/-- A round of ring A in flight in OPEN with one copy returned. -/
def halfBack (port : Port) : State :=
  (flight true work).modRing .a fun g => { g with state := .opened, inFlight := g.inFlight.map fun f =>
    match port with
    | .one => { f with copy1 := some (copy 0x23) }
    | .two => { f with copy2 := some (copy 0x23) } }
/-- R46, R47: a round completes at round close with nothing returned, by its one copy in CLOSED, and in OPEN by its second
copy at either port. -/
theorem witness_completes :
    (flight false work).completes .a (.roundClose .a ⟨true, true⟩) ⟨5, false, 0, 0, none, [⟨.idleBraked, 0⟩], none, none⟩ ∧
    (flight false work).completes .a (.copyArrival .a .two false (copy 0x33) ⟨true, true⟩)
      ⟨5, false, 0, 0, none, [⟨.idleBraked, 0⟩], none, some (copy 0x33)⟩ ∧
    (halfBack .one).completes .a (.copyArrival .a .two false (copy 0x23) ⟨true, true⟩)
      ⟨5, true, 0, 0, none, [⟨.idleBraked, 0⟩], some (copy 0x23), some (copy 0x23)⟩ ∧
    (halfBack .two).completes .a (.copyArrival .a .one false (copy 0x23) ⟨true, true⟩)
      ⟨5, true, 0, 0, none, [⟨.idleBraked, 0⟩], some (copy 0x23), some (copy 0x23)⟩ := by
  refine ⟨⟨rfl, .inl ⟨_, rfl, rfl⟩⟩, ⟨rfl, .inr ⟨_, _, _, _, rfl, rfl, ?_⟩⟩, ⟨rfl, .inr ⟨_, _, _, _, rfl, rfl, ?_⟩⟩,
    ⟨rfl, .inr ⟨_, _, _, _, rfl, rfl, ?_⟩⟩⟩ <;> decide +kernel
/-- What the round of `flight` hands over for the copy with a status. -/
def handed (status : Byte) : HandOff :=
  { settings := work.settings.ringA, sequence := 5,
    slots := fun n => if n = 0 then filledSlot (copy status) 0 else none }
/-- A carriage whose rail has a mean, and one whose rail has none. -/
theorem witness_CompletionFormsPositionAndSkew :
    ((work.reckon (handed 0x23) 0).car 0).rails[(0 : Fin 4)].mean = some 5000 ∧
    ((work.reckon (handed 0x23) 0).car 0).position = some 5000 ∧
    ((work.reckon (handed 0x23) 0).car 0).skew = some 0 ∧
    ((work.reckon (handed 0x23) 1).car 1).rails[(0 : Fin 4)].mean = none ∧
    ((work.reckon (handed 0x23) 1).car 1).position = none := by decide +kernel
theorem witness_CompletionJudgesStations :
    (copySlot (copy 0) 0).status = 0 ∧ (copySlot (copy 0x2B) 0).status.getLsbD 3 = true ∧
    (copySlot (copy 0x23) 0).status.getLsbD 0 = true ∧ (copySlot (copy 0x23) 0).status.getLsbD 3 = false ∧
    ((flight false work).st 0).state.canBeLost = true ∧ min 255 (254 + 1) = 255 ∧
    (copySlot (copy 0x33) 0).status.getLsbD 4 = true ∧ (copySlot (copy 0x33) 0).heard ≠ 5 - 1 ∧
    min (byteAt ((some (copy 0x23)).getD []) 12).toNat 1 = 1 ∧ min (byteAt ((none : Option (List Byte)).getD []) 12).toNat 1 = 0 ∧
    (({ work with stations := work.stations.set 0 { state := .offline } } : State).st 0).state = .offline := by
  decide +kernel
/-- What the round of `flight` brings the station of node 0 in a state and with a count of misses. -/
def judged (st : Station) (slot : Option Slot) : State :=
  (flight false { work with stations := work.stations.set 0 st }).completeStation .a
    ⟨5, false, 0, 0, none, [⟨.idleBraked, 0⟩], none, none⟩ 0 false slot
/-- R19, R20, R21: a drive fault, a loss by misses, and an enumeration. -/
theorem test_completion_outcomes :
    ((judged readyStation (filledSlot (copy 0x2B) 0)).st 0).state = .fault .drive ∧
    ((judged { readyStation with misses := 4 } none).st 0).state = .lost ∧
    ((judged { readyStation with misses := 3 } none).st 0).state = .ready ∧
    ((judged { state := .offline } (filledSlot (copy 0x23) 0)).st 0).state = .identifying ∧
    (judged { state := .offline } (filledSlot (copy 0x23) 0)).ringA.queue = [⟨0, .identify, none, 0⟩] := by
  decide +kernel

/-- R19, R32, R52: a downlink miss that reaches the loss limit in a slot that shows present: LOST, then identified; a
rising limit flag trips while armed, and not when not. -/
theorem test_limit_and_downlink_miss :
    let f : Round := ⟨5, false, 0, 0, none, [⟨.idleBraked, 0⟩], none, none⟩
    let at_ (st : Station) (marked : Bool) (status : Byte) : State :=
      (flight false { work with stations := work.stations.set 0 st }).completeStation .a f 0 marked (filledSlot (copy status) 0)
    ((at_ { readyStation with misses := 4 } true 0x23).st 0).state = .identifying ∧
    ((at_ { readyStation with misses := 4 } true 0x22).st 0).state = .lost ∧
    ((at_ { readyStation with misses := 4 } false 0x22).st 0).state = .ready ∧
    (at_ { readyStation with state := .driving, limitArmed := true } false 0x33).posts = [.trip 0 .limit] ∧
    (at_ { readyStation with state := .driving, limitArmed := false } false 0x33).posts = [] ∧
    ((at_ { readyStation with state := .driving, limitArmed := true } false 0x33).st 0).limitArmed = false := by
  decide +kernel

/-- A round of ring A in flight in OPEN or DOWN, with the ring record's counts. -/
def broken (state : RingState) (hops : Option (Nat × Nat)) (heal empty : Nat) : State :=
  let s := flight true work
  { s with ringA := { s.ringA with state := state, hops := hops, heal := heal, empty := empty } }
/-- R57, R58: with nothing returned and both ports up the heal count reaches 10, or stays below it; the empty count reaches
3, or stays below it. -/
theorem witness_CompletionsInOpenAndDown :
    (∀ g ∈ [broken .opened (some (0, 0)) 9 0, broken .opened (some (0, 0)) 8 2, broken .opened none 9 1, broken .down none 0 0],
      g.power = .running ∧ (g.ring .a).inFlight = some ⟨5, true, 0, 0, none, [⟨.idleBraked, 0⟩], none, none⟩ ∧
      (g.ringCfg .a).nodes = 1) ∧
    ((broken .opened (some (0, 0)) 9 0).ring .a).heal + 1 = 10 ∧
    ((broken .opened (some (0, 0)) 8 2).ring .a).heal + 1 < 10 ∧
    ((broken .opened (some (0, 0)) 8 2).ring .a).empty + 1 = 3 ∧ ((broken .opened none 9 1).ring .a).empty + 1 < 3 ∧
    ((broken .opened none 9 1).ring .a).hops ≠ some (0, 0) ∧ (copy 0x23).length = 42 + 16 * 1 ∧
    byteAt (copy 0x23) 0 = 1 ∧ halfAt (copy 0x23) 2 = 5 := by decide +kernel
/-- R57, R59: the tenth such completion heals the ring; a return takes a DOWN ring to OPEN. -/
theorem test_healing :
    ((broken .opened (some (0, 0)) 9 2).endOpen .a ⟨5, true, 0, 0, none, [], none, none⟩ ⟨true, true⟩).ringA.state = .closed ∧
    ((broken .down none 0 0).endDown .a ⟨5, true, 0, 0, none, [], some (copy 0x23), none⟩).ringA.state = .opened := by
  decide +kernel

/-- A plate at 6,000 mm for every rail. -/
def plated (s : State) : State :=
  { s with settings := { s.settings with plates := s.settings.plates.set 0 ((Vector.replicate 128 none).set 0 (some ⟨9, 6000, 15⟩)) } }
/-- `s` with station 0's reckoning fields changed. -/
def reckoned (f : Reckoning → Reckoning) (s : State) : State :=
  s.modSt 0 fun st => { st with reckoning := f st.reckoning }
/-- R77, R78: no plate yet, the same plate, no plate any more, and a valid plate that passes its slip check or fails it. -/
theorem witness_StationsAreReckonedFromTheirSlots :
    (work.st 0).reckoning.lastPlate = none ∧ (work.st 0).reckoning.base = some (.seed 5000) ∧
    ((reckoned (fun k => { k with lastPlate := some 9 }) (plated work)).st 0).reckoning.lastPlate = some 9 ∧
    (plated work).plateFor 0 9 = some ⟨9, 6000, 15⟩ ∧ (plated work).plateFor 0 8 = none ∧
    ((6000 : Int) - 5800).natAbs ≤ ((plated work).cfg (work.home 0)).slipLimit ∧
    ¬ ((6000 : Int) - 5799).natAbs ≤ ((plated work).cfg (work.home 0)).slipLimit ∧
    (flight false (driving work)).occupant .a 0 = some 0 ∧ ((flight false (driving work)).st 0).state.isDriven = true ∧
    1 ≤ ((flight false (driving work)).ringCfg .a).lossLimit ∧ (copySlot (copy 0x23) 0).status ≠ 0 ∧
    (copySlot (copy 0x23) 0).status.getLsbD 3 = false ∧
    ((flight false (driving work)).ring .a).filled[(0 : Fin 40)] = false := by
  decide +kernel
/-- The slot of a station on plate 9 at its zero count. -/
def onPlate : Slot := ⟨0x23, 0, 9, 0, 0, 0, 0⟩
/-- R78: a passage from 5,800 mm to the plate at 6,000 mm passes its check, one from 5,799 mm slips. -/
theorem test_plate_passage :
    let h : HandOff := ⟨work.settings.ringA, 5, fun _ => none⟩
    (((reckoned (fun k => { k with lastPlate := some 0, lastPosition := some 5800 }) (plated work)).takeSlot h 0 onPlate).st 0
      ).reckoning.kind = .referenced ∧
    (((reckoned (fun k => { k with lastPlate := some 0, lastPosition := some 5799 }) (plated work)).takeSlot h 0 onPlate).st 0
      ).reckoning.exclusion = some .slip := by decide +kernel

theorem witness_RailMeansAndSeeding_lists :
    ([⟨0, 10⟩, ⟨1, 20⟩, ⟨2, 30⟩] : List Candidate).Pairwise (fun x y => x.station < y.station) ∧
    3 ≤ ([⟨0, 10⟩, ⟨1, 20⟩, ⟨2, 30⟩] : List Candidate).length ∧
    (formRail {} [⟨0, 10⟩, ⟨1, 20⟩, ⟨2, 30⟩] 10 40).deviant = none ∧
    (formRail {} [⟨0, 10⟩, ⟨1, 20⟩, ⟨2, 30⟩] 9 40).deviant = some 0 ∧
    (formRail {} [⟨0, 10⟩, ⟨1, 30⟩] 10 40).rail.split = false ∧
    (formRail {} [⟨0, 10⟩, ⟨1, 31⟩] 10 40).rail.split = true ∧
    (formRail { mean := some 299999, written := 600 } [] 10 40).rail.mean = some 300000 := by decide +kernel
/-- R82, R83: the cause a rail calls for, at the edges of its tolerance, for a SEEK, its stop, and at rest. -/
theorem test_rail_causes :
    railTrip { state := .moving } 2 { split := true } = some .railSplit ∧
    railTrip { state := .moving } 2 { blind := 3 } = some .railBlind ∧ railTrip { state := .moving } 2 { blind := 2 } = none ∧
    railTrip { state := .moving, order := some ⟨1, .seek .inward 5, 9, false⟩ } 2 { blind := 3 } = none ∧
    railTrip { state := .stopping .ending .ramp, seekStop := true } 2 { blind := 3 } = none ∧
    railTrip { state := .awaitPower } 2 { split := true, blind := 3 } = none := by decide +kernel
/-- Ring A with two nodes: station 0 REFERENCED, station 1 READY of kind NONE, both on rail 0 of carriage 0. -/
def paired : State :=
  let s := flight false work
  { s with settings := { s.settings with stations := s.settings.stations.set 1 { enabled := true, node := 1 },
                                         ringA := { s.settings.ringA with nodes := 2 } }
           stations := s.stations.set 1 { readyStation with reckoning := {} } }
/-- A copy of its round, with both slots filled. -/
def pairCopy : List Byte := copy 0x23 ++ [0, 0, 0, 0x23] ++ List.replicate 12 0
theorem witness_RailMeansAndSeeding :
    paired.awaitsCopy .a ⟨5, false, 0, 0, none, [⟨.idleBraked, 0⟩], none, none⟩ pairCopy ∧
    (copySlot pairCopy 1).status ≠ 0 ∧ (copySlot pairCopy 1).offset.natAbs ≤ (paired.ringCfg .a).ageLimit ∧
    (paired.car 0).state = .parked ∧ paired.isStationOf 0 1 = true ∧ (paired.st 1).state = .ready ∧
    (paired.st 1).reckoning.kind = .none ∧ (paired.st 1).reckoning.base = none ∧ (paired.cfg 1).ring = .a ∧
    (paired.st 1).reckoning.exclusion = none ∧ (paired.st 1).reckoning.lastPlate = none := by
  refine ⟨?_, by decide +kernel⟩
  unfold State.awaitsCopy; decide +kernel
/-- What that completion hands over. -/
def pairHanded : HandOff :=
  { settings := paired.settings.ringA, sequence := 5, slots := fun n => if n.val < 2 then filledSlot pairCopy n.val else none }
/-- R85: that completion seeds station 1 from the mean that station 0 gives the rail. -/
theorem test_seeding :
    ((paired.reckon pairHanded 0).st 1).state = .ready ∧ ((paired.reckon pairHanded 0).st 1).reckoning.kind = .seeded ∧
    ((paired.reckon pairHanded 0).st 1).reckoning.base = some (.seed 5000) ∧
    ((paired.reckon pairHanded 0).st 0).reckoning.lastPosition.isSome = true := by decide +kernel

/-- A round of ring A in flight with a request for station 0 in a state, tried a number of times. -/
def asked (st : Station) (kind : ServiceKind) (attempts : Nat) (live : Bool) : State :=
  let s := flight false { work with stations := work.stations.set 0 st }
  { s with ringA := { s.ringA with
      inFlight := some ⟨5, false, 0, 0, some ⟨0, 0, kind, none, live⟩, [⟨.idleBraked, 0⟩], none, none⟩
      queue := [⟨0, kind, none, attempts⟩] } }
/-- A copy of it whose answer field holds an answer to a request kind. -/
def replied (kind : Byte) : List Byte :=
  (copy 0x23).take 27 ++ [0, kind, 1, 7, 1, 44, 60, 0, 250, 200] ++ (copy 0x23).drop 37
theorem witness_ServiceAnswersDecideTheState :
    (asked { state := .identifying } .identify 1 true).awaitsCopy .a
      ⟨5, false, 0, 0, some ⟨0, 0, .identify, none, true⟩, [⟨.idleBraked, 0⟩], none, none⟩ (replied 1) ∧
    byteAt (replied 1) 29 ≠ 0 ∧ (byteAt (replied 1) 27).toNat = 0 ∧ (byteAt (replied 1) 28).toNat = 1 ∧
    (byteAt (replied 2) 28).toNat = 2 ∧ byteAt (copy 0x23) 29 = 0 ∧
    (copySlot (replied 1) 0).status ≠ 0 ∧ (copySlot (replied 1) 0).status.getLsbD 3 = false ∧
    (asked { state := .identifying } .identify 1 true).occupant .a 0 = some 0 ∧
    ((asked { state := .loading } .load 2 true).ring .a).queue.find?
      (fun y => decide (y.station = 0) && decide (y.kind = .load)) = some ⟨0, .load, none, 2⟩ ∧
    ((asked { state := .loading } .load 3 true).ring .a).queue.find?
      (fun y => decide (y.station = 0) && decide (y.kind = .load)) = some ⟨0, .load, none, 3⟩ ∧
    ((asked { state := .ready } .load 1 false).st 0).state ≠ .loading := by
  refine ⟨?_, by decide +kernel⟩
  unfold State.awaitsCopy; decide +kernel
/-- R22, R62: a valid answer takes the station to LOADING with its identity; the third attempt without one takes it to
LOST, and its slot that shows present to IDENTIFYING. -/
theorem test_service :
    let f (b : List Byte) (k : ServiceKind) : Round :=
      ⟨5, false, 0, 0, some ⟨0, 0, k, none, true⟩, [⟨.idleBraked, 0⟩], none, some b⟩
    let a := (asked { state := .identifying } .identify 1 true).completeStation .a (f (replied 1) .identify) 0 false
      (filledSlot (replied 1) 0)
    let b := (asked { state := .loading } .load 3 true).completeStation .a (f (copy 0x23) .load) 0 false
      (filledSlot (copy 0x23) 0)
    (a.st 0).state = .loading ∧ (a.st 0).params = some ⟨100, 200, 500⟩ ∧ (b.st 0).state = .identifying ∧
    b.link.flag (.ofCarriage 0 .stationLost) = true := by decide +kernel

/-! ## The engines, the Arbiter and the weather -/

theorem witness_stepsOn : (sampled (sampleAt 5000) (moving order9 50)).stepsOn 0 (sampleAt 5000) [.grantAttempt] ∧
    (sampled (sampleAt 5000) (moving order9 50)).tripFree 0 (sampleAt 5000) := by
  unfold State.stepsOn State.tripFree; decide +kernel

theorem witness_SkewAndOvertravelTrip_skew :
    let m : SampleSet := { sampleAt 5000 with s := some 61 }
    let s := sampled m (moving order9 50)
    s.power = .running ∧ oldestSample 0 s.posts = some (m, [.grantAttempt]) ∧ m.trip = none ∧ m.s = some 61 ∧
    ((s.cfg 0).skewTrip : Int) < 61 ∧ (s.car 0).state = .moving ∧ ((s.cfg 0).skewWarn : Int) < 61 ∧
    (s.car 0).skewWarnArmed = true ∧ ¬ ((s.cfg 0).skewTrip : Int) < 60 := by decide +kernel
/-- R106, R113: a cause carried in the sample set, at a carriage in motion and at one at rest. -/
theorem witness_SkewAndOvertravelTrip_cause :
    let m : SampleSet := { sampleAt 5000 with trip := some .railBlind }
    (sampled m (moving order9 50)).stepsOn 0 m [.grantAttempt] ∧ (sampled m work).stepsOn 0 m [.grantAttempt] ∧
    m.trip = some .railBlind ∧ (work.car 0).state.inMotion = false ∧ ((moving order9 50).car 0).state = .moving := by
  unfold State.stepsOn; decide +kernel
/-- The other clauses: brakes set in the same step (no driven station), at rest, and TRIPPED. -/
theorem witness_SkewAndOvertravelTrip_states :
    (work.car 0).state = .parked ∧ work.allShow (work.drivenOf 0) Slot.brakeSet = true ∧
    (moving order9 50).allShow ((moving order9 50).drivenOf 0) Slot.brakeReleased = false ∧
    ((carry fun k => { k with state := .tripped true }).car 0).state.isTripped = true := by decide +kernel
theorem witness_SkewAndOvertravelTrip_overtravel :
    let s := sampled (sampleAt (-201)) (moving order9 50)
    s.power = .running ∧ oldestSample 0 s.posts = some (sampleAt (-201), [.grantAttempt]) ∧
    (sampleAt (-201)).trip = none ∧ skewTrips (s.cfg 0) (sampleAt (-201)) = false ∧ (s.car 0).state = .moving ∧
    (-201 : Int) < (s.cfg 0).travelMin - (s.cfg 0).overtravelMargin ∧
    ¬ (-200 : Int) < (s.cfg 0).travelMin - (s.cfg 0).overtravelMargin ∧
    (s.cfg 0).travelMax + (s.cfg 0).overtravelMargin < (250201 : Int) := by decide +kernel
theorem witness_ControlStepAtRest :
    (oldestSample 0 (sampled (sampleAt 5000) work).posts).isSome = true ∧ (work.car 0).state = .parked ∧
    (work.ring (work.cfg 0).ring).state ≠ .quiet ∧
    (({ work with ringA := {} } : State).ring (work.cfg 0).ring).state = .quiet := by decide +kernel
theorem witness_SpeedStepTowardTheTarget :
    let s := sampled (sampleAt 5000) (moving order9 50)
    s.power = .running ∧ oldestSample 0 s.posts = some (sampleAt 5000, [.grantAttempt]) ∧
    (sampleAt 5000).trip = none ∧ (s.car 0).state = .moving ∧ (s.car 0).order = some order9 ∧
    order9.task = .move 9000 ∧ (sampleAt 5000).p = some 5000 ∧ skewTrips (s.cfg 0) (sampleAt 5000) = false ∧
    overtravels (s.cfg 0) (sampleAt 5000) = false ∧ s.active 0 = [] ∧ (s.response 0).action ≠ .hold ∧
    s.clampTravel 0 9000 = 9000 ∧ ((s.cfg 0).arrivalTolerance : Int) < ((9000 : Int) - 5000).natAbs ∧
    directionOf (9000 - 5000) = some .outward ∧ directionOf (s.car 0).vCmd = some .outward ∧
    (moving order9 0).car 0 = { (moving order9 0).car 0 with vCmd := 0, lastDirection := none } ∧
    (99 : Nat) < 4 ^ 32 := by
  decide +kernel
theorem witness_StepIncrements :
    let s := sampled (sampleAt 5000) (moving order9 50)
    s.power = .running ∧ oldestSample 0 s.posts = some (sampleAt 5000, [.grantAttempt]) ∧ (s.car 0).state = .moving ∧
    max 1 ((s.cfg 0).acceleration * (s.ringCfg (s.cfg 0).ring).period / 1000) = 1 := by decide +kernel
/-- Carriage 0 on two rails with a trim, its one driven station on rail 0. -/
def trimmed (s : State) : State :=
  let cfg : CarriageConfig := { s.cfg 0 with railCount := 2, trimGain := 1000, trimLimit := 25 }
  { s with settings := { s.settings with carriages := s.settings.carriages.set 0 cfg } }
/-- A sample set at 5,000 mm with rail 0 ahead and rail 1 behind by so many mm. -/
def skewed (ahead : Int) (referenced : Bool) : SampleSet :=
  { sampleAt 5000 with rails := #v[⟨some (5000 + ahead), 1, 0, false, referenced⟩, ⟨some (5000 - ahead), 1, 0, false, referenced⟩,
                                   {}, {}] }
/-- R125, R126: the hypotheses of the setpoints' clause in MOVING and in a ramp stage: a rail with a driven station and one
without, both of them trim rails or none. -/
theorem witness_SpeedStepTowardTheTarget_setpoints :
    (sampled (skewed 20 true) (trimmed (moving order9 50))).stepsOn 0 (skewed 20 true) [.grantAttempt] ∧
    (sampled (skewed 20 true) (trimmed (moving order9 50))).tripFree 0 (skewed 20 true) ∧
    ((trimmed (moving order9 50)).car 0).order = some order9 ∧ (trimmed (moving order9 50)).isStationOf 0 0 = true ∧
    ((trimmed (moving order9 50)).st 0).state.isDriven = true ∧ ((trimmed (moving order9 50)).stCfg 0).rail = 0 ∧
    ((carry fun k => { k with state := .stopping .ending .ramp, vCmd := 40, seekStop := true }).car 0).seekStop = true ∧
    (skewed 20 true).rails[(1 : Fin 4)].referenced = true ∧ (skewed 20 false).rails[(1 : Fin 4)].referenced = false := by
  unfold State.stepsOn State.tripFree; decide +kernel
/-- R125: at 51 mm/s a rail 20 mm ahead is slowed to 31 and the one behind driven at 71; 30 mm ahead the trim limit binds. -/
theorem test_setpoints :
    (∃ t, exec (.controlStep 0) (sampled (skewed 20 false) (trimmed (moving order9 50))) = .next t ∧
      (t.car 0).rails[(0 : Fin 4)].setpoint = 31 ∧ (t.car 0).rails[(1 : Fin 4)].setpoint = 71) ∧
    (∃ t, exec (.controlStep 0) (sampled (skewed 30 false) (trimmed (moving order9 50))) = .next t ∧
      (t.car 0).rails[(0 : Fin 4)].setpoint = 26 ∧ (t.car 0).rails[(1 : Fin 4)].setpoint = 76) := by
  constructor <;> refine ⟨_, rfl, ?_⟩ <;> decide +kernel
/-- R118: one step of a MOVE at 50 mm/s: it rises by inc. -/
theorem test_speed_step : ∃ t, exec (.controlStep 0) (sampled (sampleAt 5000) (moving order9 50)) = .next t ∧
    (t.car 0).vCmd = 51 ∧ (t.car 0).state = .moving ∧ (t.car 0).rails[(0 : Fin 4)].setpoint = 51 := by
  refine ⟨_, rfl, ?_⟩
  decide +kernel
theorem witness_ArrivalAndBlocking :
    let s := sampled (sampleAt 8995) (moving order9 20)
    s.power = .running ∧ oldestSample 0 s.posts = some (sampleAt 8995, [.grantAttempt]) ∧
    (s.car 0).state = .moving ∧ (s.car 0).order = some order9 ∧ skewTrips (s.cfg 0) (sampleAt 8995) = false ∧
    overtravels (s.cfg 0) (sampleAt 8995) = false ∧ (s.response 0).action ≠ .hold ∧
    s.clampTravel 0 ((s.freeInterval 0 8995).clamp 9000) = 9000 ∧ (s.freeInterval 0 8995).clamp 9000 = 9000 ∧
    ((9000 : Int) - 8995).natAbs ≤ (s.cfg 0).arrivalTolerance ∧
    (s.car 0).vCmd.natAbs ≤ min (s.cfg 0).creepSpeed (speedLimit (s.cfg 0) order9 (s.response 0)) := by
  decide +kernel
/-- R119: within the arrival tolerance at creep speed the carriage has arrived. -/
theorem test_arrival : ∃ t, exec (.controlStep 0) (sampled (sampleAt 8995) (moving order9 20)) = .next t ∧
    (t.car 0).state = .stopping .ending .brake ∧ (t.car 0).order = none := by
  refine ⟨_, rfl, ?_⟩
  decide +kernel
/-- `work` with an entry that holds carriage 0 short of 8,000 mm while carriage 1's reach is absent. -/
def fenced (s : State) : State :=
  { s with settings := { s.settings with
      interlocks := s.settings.interlocks.set 0 ⟨true, 0, .outward, 8000, 1, .outward, 0⟩ } }
/-- R138: at an interlock limit short of its target the carriage enters BLOCKED. -/
theorem test_blocking :
    (fenced work).clampTravel 0 (((fenced work).freeInterval 0 7997).clamp 9000) = 8000 ∧
    ∃ t, exec (.controlStep 0) (fenced (sampled (sampleAt 7997) (moving order9 20))) = .next t ∧
      (t.car 0).state = .blocked ∧ (t.car 0).effectiveTarget = some 8000 := by
  refine ⟨by decide +kernel, _, rfl, ?_⟩
  decide +kernel
/-- The entry holds the target at 8,000 mm: active, and its free interval, short of the target and reaching it. -/
theorem witness_ArrivalAndBlocking_entry :
    (0 : Fin 16) ∈ (fenced work).active 0 ∧ (fenced work).freeInterval 0 7997 = ⟨none, some 8000⟩ ∧
    ((fenced work).freeInterval 0 7997).clamp 9000 ≠ 9000 ∧
    ((8000 : Int) - 7995).natAbs ≤ ((fenced work).cfg 0).arrivalTolerance ∧
    ¬ ((8000 : Int) - 7994).natAbs ≤ ((fenced work).cfg 0).arrivalTolerance := by decide +kernel

/-- `s` with station 0 in the drive, its slot showing a status. -/
def showing (status : Byte) (s : State) : State :=
  s.modSt 0 fun _ => { readyStation with state := .driving, reported := some ⟨⟨status, 0, 0, 0, 0, 0, 0⟩, 1⟩ }
theorem witness_BrakesAreConfirmedAtTheControlStep :
    (sampled (sampleAt 5000) (showing 0x25 (carry fun k => { k with state := .releasing, order := some order9 }))).stepsOn 0
      (sampleAt 5000) [.grantAttempt] ∧
    ((showing 0x25 work).st 0).state.isDriven = true ∧ ((showing 0x25 work).st 0).shows Slot.brakeReleased = true ∧
    ((showing 0x23 work).st 0).shows Slot.brakeReleased = false ∧ ((showing 0x23 work).st 0).shows Slot.brakeSet = true ∧
    (work.st 0).state.isDriven = false ∧
    ((carry fun k => { k with state := .stopping .hold .brake, order := some order9, holds := { wind := true },
                              notes := some ⟨{ wind := true }, some 5000, none⟩ }).car 0).notes.isSome = true ∧
    ((carry fun k => { k with state := .tripped false }).car 0).state = .tripped false ∧
    ({ sampleAt 5000 with tripBraked := true } : SampleSet).tripBraked = true := by
  refine ⟨?_, by decide +kernel⟩
  unfold State.stepsOn; decide +kernel
/-- R97, R104: with its brakes released the carriage is MOVING and makes its step; with them set it leaves STOPPING for
HELD with its order in the resume record. -/
theorem test_brakes :
    (∃ t, exec (.controlStep 0) (sampled (sampleAt 5000)
        (showing 0x25 (carry fun k => { k with state := .releasing, order := some order9 }))) = .next t ∧
      (t.car 0).state = .moving ∧ (t.car 0).vCmd = 1) ∧
    (∃ t, exec (.controlStep 0) (sampled (sampleAt 5000) (showing 0x23 (carry fun k =>
        { k with state := .stopping .hold .brake, order := some order9, holds := { wind := true },
                 notes := some ⟨{ wind := true }, some 5000, none⟩ }))) = .next t ∧
      (t.car 0).state = .held ∧ (t.car 0).resume = some ⟨order9, { wind := true }, some 5000⟩) := by
  constructor <;> refine ⟨_, rfl, ?_⟩ <;> decide +kernel

/-- A SEEK outward over 500 mm. -/
def seek5 : Order := ⟨8, .seek .outward 500, 20, false⟩
/-- `m` with the marks and the distance a SEEK looks at. -/
def sought (m : SampleSet) (referenced : Bool) (travelled : Nat) : SampleSet :=
  { m with rails := Vector.replicate 4 { mean := none, contributors := 0, blind := 0, split := false, referenced := referenced },
           travelled := some travelled }
theorem witness_RampStageAndSeekEnd :
    (sampled (sampleAt 5000) (moving seek5 5)).stepsOn 0 (sampleAt 5000) [.grantAttempt] ∧
    (sampled (sampleAt 5000) (moving seek5 5)).tripFree 0 (sampleAt 5000) ∧
    (moving seek5 5).seekAtBound 0 .outward (some 5000) = false ∧ ((moving seek5 5).cfg 0).railCount = 1 ∧
    (sought (sampleAt 5000) true 0).rails[(0 : Fin 4)].referenced = true ∧
    (sought (sampleAt 5000) false 500).rails[(0 : Fin 4)].referenced = false ∧
    (sought (sampleAt 5000) false 500).travelled = some 500 ∧ (499 : Nat) < 500 ∧
    (sampleAt 5000).largestSpeed = none ∧ (1 : Int).natAbs - (moving seek5 5).dec 0 = 0 ∧
    (2 : Int).natAbs - (moving seek5 5).dec 0 ≠ 0 := by
  unfold State.stepsOn State.tripFree; decide +kernel
/-- R95: referenced on its one rail, over its distance, and neither. -/
theorem test_seek_end :
    (∃ t, exec (.controlStep 0) (sampled (sought (sampleAt 5000) true 0) (moving seek5 5)) = .next t ∧
      (t.car 0).state = .stopping .ending .ramp ∧ (t.car 0).seekStop = true) ∧
    (∃ t, exec (.controlStep 0) (sampled (sought (sampleAt 5000) false 500) (moving seek5 5)) = .next t ∧
      (t.car 0).state = .stopping .ending .ramp) ∧
    (∃ t, exec (.controlStep 0) (sampled (sought (sampleAt 5000) false 499) (moving seek5 5)) = .next t ∧
      (t.car 0).state = .moving) := by
  refine ⟨?_, ?_, ?_⟩ <;> refine ⟨_, rfl, ?_⟩ <;> decide +kernel
/-- R123: the ramp stage ends at a commanded speed of 0 with the stations at standstill. -/
theorem test_ramp : ∃ t, exec (.controlStep 0) (sampled (sampleAt 5000)
      (driving (carry fun k => { k with state := .stopping .ending .ramp, vCmd := 1 }))) = .next t ∧
    (t.car 0).state = .stopping .ending .brake ∧ (t.car 0).vCmd = 0 ∧ (t.car 0).dwellTimer = some 2000000 := by
  refine ⟨_, rfl, ?_⟩
  decide +kernel

/-- Carriage 0 BLOCKED under an order. -/
def blocked (o : Order) : State :=
  driving (carry fun k => { k with state := .blocked, order := some o, blockTimer := some 9 })
theorem witness_UnblockAndReversal :
    (sampled (sampleAt 7997) (blocked order9)).stepsOn 0 (sampleAt 7997) [.grantAttempt] ∧
    (sampled (sampleAt 7997) (blocked order9)).tripFree 0 (sampleAt 7997) ∧ ((blocked order9).car 0).vCmd = 0 ∧
    (fenced (blocked order9)).clampTravel 0 (((fenced (blocked order9)).freeInterval 0 7997).clamp 9000) = 8000 ∧
    ¬ ((fenced (blocked order9)).cfg 0).arrivalTolerance < ((8000 : Int) - 7995).natAbs ∧
    ((fenced (blocked order9)).cfg 0).arrivalTolerance < ((8000 : Int) - 7994).natAbs ∧
    (fenced (blocked seek5)).seekAtBound 0 .outward (some 7995) = true ∧
    (fenced (blocked seek5)).seekAtBound 0 .outward (some 7994) = false ∧
    (fenced (blocked seek5)).seekAtBound 0 .outward none = true ∧ (blocked seek5).seekAtBound 0 .outward none = false ∧
    directionOf ((moving order9 (-50)).car 0).vCmd = some Direction.outward.opposite ∧ (moving order9 0).pending = [] ∧
    ((moving order9 (-50)).response 0).action ≠ .hold ∧ directionOf (9000 - 5000) = some .outward := by
  unfold State.stepsOn State.tripFree; decide +kernel
/-- R139: free of the entry the carriage leaves BLOCKED; under it, it stays. R120: a speed away from the target falls. -/
theorem test_unblock :
    (∃ t, exec (.controlStep 0) (sampled (sampleAt 7997) (blocked order9)) = .next t ∧ (t.car 0).state = .moving) ∧
    (∃ t, exec (.controlStep 0) (sampled (sampleAt 7997) (fenced (blocked order9))) = .next t ∧
      (t.car 0).state = .blocked ∧ (t.car 0).blockTimer = some 9) ∧
    (∃ t, exec (.controlStep 0) (sampled (sampleAt 5000) (moving order9 (-50))) = .next t ∧ (t.car 0).vCmd = -49) := by
  refine ⟨?_, ?_, ?_⟩ <;> refine ⟨_, rfl, ?_⟩ <;> decide +kernel

theorem witness_TripCausesTripCarriagesInMotion :
    sampleBefore 0 (.trip 0 .ringDown) [.sample 0 (sampleAt 5000), .trip 0 .ringDown] = true ∧
    sampleBefore 0 (.trip 0 .ringDown) [.trip 0 .ringDown, .sample 0 (sampleAt 5000)] = false ∧
    ((moving order9 50).car 0).state.inMotion = true ∧ (work.car 0).state.inMotion = false ∧
    ((carry fun k => { k with state := .awaitPower }).car 0).state = .awaitPower := by decide +kernel
theorem witness_HoldCausesAreTakenByState :
    ((moving order9 50).car 0).state = .moving ∧ (heldWithRecord.car 0).state = .held ∧
    ((carry fun k => { k with state := .awaitPower, order := some order9 }).car 0).order = some order9 ∧
    (work.car 0).state = .parked := by decide +kernel
/-- HELD for the wind alone, with a record formed under those causes. -/
def heldForWind (causes : CauseSet) : State :=
  carry fun k => { k with state := .held, holds := { wind := true }, resume := some ⟨order9, causes, none⟩ }
theorem witness_ClearingACause :
    ((heldForWind {}).car 0).holds.has .wind = true ∧ ((heldForWind {}).car 0).holds.erase .wind = {} ∧
    (heldForWind {}).mayAutoResume 0 ⟨order9, {}, none⟩ = true ∧
    (heldForWind { wind := true }).mayAutoResume 0 ⟨order9, { wind := true }, none⟩ = false ∧
    (heldForWind { link := true }).mayAutoResume 0 ⟨order9, { link := true }, none⟩ = false ∧
    ((carry fun k => { k with state := .held, holds := { wind := true, link := true } }).car 0).holds.erase .wind ≠ {} ∧
    (work.car 0).holds.has .wind = false := by decide +kernel
theorem witness_EngineTimersExpire :
    ((carry fun k => { k with state := .releasing, releaseTimer := some 0 }).car 0).releaseTimer = some 0 ∧
    ((carry fun k => { k with state := .stopping .hold .brake, setTimer := some 0 }).car 0).setTimer = some 0 ∧
    ((carry fun k => { k with state := .tripped false, setTimer := some 1 }).car 0).state = .tripped false ∧
    ((carry fun k => { k with dwellTimer := some 0 }).car 0).dwellTimer = some 0 ∧
    ((carry fun k => { k with state := .blocked, blockTimer := some 0 }).car 0).blockTimer = some 0 := by decide +kernel
/-- Carriage 0 waiting for 60 kW. -/
def waiting (budget : Nat) : State :=
  { carry fun k => { k with state := .awaitPower, order := some order9 } with
    settings := { work.settings with budget := budget }
    arbiter := { queue := [⟨0, 3, 60, 0, 120000000⟩], counter := 1 } }
theorem witness_GrantAttemptAndTimeout_grant :
    (waiting 60).arbiter.queue = ⟨0, 3, 60, 0, 120000000⟩ :: [] ∧ work.arbiter.queue = [] ∧
    (waiting 60).arbiter.grantedSum + 60 ≤ (waiting 60).settings.budget ∧
    (waiting 59).settings.budget < (waiting 59).arbiter.grantedSum + 60 := by decide +kernel
theorem witness_GrantAttemptAndTimeout_timeout :
    (⟨0, 3, 60, 0, 120000000⟩ : Waiting) ∈ (waiting 0).arbiter.queue ∧ ((waiting 0).car 0).order.isSome = true := by
  decide +kernel
/-- R147: the head that fits is granted, and its READY station drives. -/
theorem test_grant : ∃ t, exec .grantAttempt (waiting 60) = .next t ∧ (t.car 0).state = .releasing ∧
    (t.st 0).state = .driving ∧ t.arbiter.grantedSum = 60 := by
  refine ⟨_, rfl, ?_⟩
  decide +kernel
/-- One anemometer enabled, its window full of 90, in a given window state. -/
def windy (startWindow : Option Nat) (level : Fin 4) (descent : Timer) : State :=
  { work with
    settings := { work.settings with site := { enabled := #v[true, false, false, false] } }
    weather := { level := level, target := some 0, startWindow := startWindow, descentTimer := descent, wet := false,
                 anemometers := (Vector.replicate 4 ({} : Anemometer)).set 0 ⟨List.replicate 60 ⟨90, true⟩, 90, .valid⟩ } }
theorem witness_PulsesBecomeWindowEntries :
    (windy none 0 none).settings.site.enabled[(0 : Fin 4)] = true ∧
    (windy none 0 none).settings.site.enabled[(1 : Fin 4)] = false ∧
    (windy none 0 none).weather.anemometers[(0 : Fin 4)].window.length = 60 := by decide +kernel
theorem witness_LevelFollowsTheTarget_expiry :
    (windy (some 2) 0 none).weather.startWindow = some 2 ∧ (windy (some 1) 0 none).weather.startWindow = some 1 ∧
    (windy none 3 none).weather.startWindow = none ∧ (windy none 0 none).weather.level < 1 := by decide +kernel
/-- R163: the defaults at CALM, BREEZY, GUSTY and STORM. -/
theorem test_present_response :
    ((windy none 0 none).response 5).action = .none ∧ (windy none 1 none).response 5 = ⟨.none, 100⟩ ∧
    (windy none 2 none).response 5 = ⟨.cap, 50⟩ ∧ (windy none 3 none).response 5 = ⟨.hold, 100⟩ := by decide +kernel
/-- R158, R159: a mean of 90 meets A_1 = 70: level 1, at once. -/
theorem test_rise : ∃ t, exec .weatherTimerExpiry (windy none 0 none) = .next t ∧ t.weather.level = 1 ∧
    t.weather.mean = some 90 ∧ t.weather.gust = some 90 := by
  refine ⟨_, rfl, ?_⟩
  decide +kernel
theorem witness_LevelFollowsTheTarget_descent :
    (windy none 1 (some 0)).weather.descentTimer = some 0 ∧ (windy none 1 (some 0)).weather.target = some 0 ∧
    0 < (windy none 1 (some 0)).weather.level := by decide +kernel

/-! ## The invariants -/

theorem witness_GrantsMatchStatesAtEveryStep : PowerSound State.reset ∧ PowerSound (waiting 60) := by
  constructor <;> unfold PowerSound <;> decide +kernel
theorem witness_QueuesStayBounded : LinkBounded eight ∧ ServiceBounded work := by
  constructor
  · unfold LinkBounded; decide +kernel
  · unfold ServiceBounded; decide +kernel
theorem witness_SpeedsStayWithinTheirLimits : SpeedsSound (moving order9 100) := by
  have h : ∀ c, (((moving order9 100).car c).state.mayMove = false → ((moving order9 100).car c).vCmd = 0) ∧
      ((moving order9 100).car c).vCmd.natAbs ≤ ((moving order9 100).cfg c).maxSpeed := by decide +kernel
  intro c
  refine ⟨(h c).1, (h c).2, fun r => ?_⟩
  unfold setpointLaw
  revert r c
  decide +kernel
theorem witness_OutputsFollowTheState : OutputsSound State.reset := by
  show State.reset.ready = (!State.reset.lines.estop && !State.reset.link.restartDue) ∧
    State.reset.motion = State.reset.anyInMotion
  decide +kernel
theorem witness_RecordsStaySound : PowerSound (waiting 60) ∧ RecordsSound (waiting 60) := by
  constructor
  · unfold PowerSound; decide +kernel
  · unfold RecordsSound Carriage.recordSound; decide +kernel

end Sys2Proof.Tests
end

section
/-! PROOF. Rounding (R1), plates (R67), and what the taking of a slot makes of a station's reckoning fields (R71 to R73,
R75, R77, R78). -/

namespace Sys2Proof.Machine

/-! ## Rounding (R1) -/

/-- The distance of a number from its rounded quotient's multiple, taken on magnitudes: both signs behave alike. -/
theorem rounded_magnitudes (a : Int) (b : Nat) :
    (rounded a b * b).natAbs = (2 * a.natAbs + b) / (2 * b) * b ∧
    (a - rounded a b * b).natAbs = ((a.natAbs : Int) - ((2 * a.natAbs + b) / (2 * b) * b : Nat)).natAbs := by
  unfold rounded
  dsimp only
  generalize (2 * a.natAbs + b) / (2 * b) = q
  split
  · rw [Int.neg_mul, ← Int.natCast_mul]
    omega
  · rw [← Int.natCast_mul]
    omega

/-- R1: the nearest integer, and on a tie the one farther from zero. -/
theorem rounded_nearest (a : Int) (b : Nat) (hb : 0 < b) :
    2 * (a - rounded a b * b).natAbs ≤ b ∧
    (2 * (a - rounded a b * b).natAbs = b → a.natAbs < (rounded a b * b).natAbs) := by
  obtain ⟨hmultiple, hdistance⟩ := rounded_magnitudes a b
  rw [hmultiple, hdistance]
  have hdivision := Nat.div_add_mod (2 * a.natAbs + b) (2 * b)
  have hremainder := Nat.mod_lt (2 * a.natAbs + b) (show 0 < 2 * b by omega)
  generalize (2 * a.natAbs + b) / (2 * b) = q at *
  have hproduct : 2 * b * q = 2 * (q * b) := by rw [Nat.mul_assoc, Nat.mul_comm b q]
  omega

/-! ## Plates (R67) -/

/-- The entry that `PlateTable.find` answers stands in the table under the id asked for. -/
theorem PlateTable.mem_of_find {t : PlateTable} {id : Half} {p : Plate} (h : t.find id = some p) :
    p.id = id ∧ ∃ i : Fin 128, t[i] = some p := by
  obtain ⟨entry, hmem, hentry⟩ := List.exists_of_findSome?_eq_some h
  obtain ⟨i, hi, hat⟩ := Vector.getElem_of_mem (Vector.mem_toList_iff.mp hmem)
  cases entry with
  | none => simp at hentry
  | some q =>
    obtain ⟨hid, rfl⟩ : q.id = id ∧ q = p := by simpa using hentry
    exact ⟨hid, ⟨i, hi⟩, hat⟩

/-- In a table in which no id stands twice, `PlateTable.find` finds every entry. -/
theorem PlateTable.find_eq_some_iff {t : PlateTable} {id : Half} {p : Plate}
    (unique : ∀ (i j : Fin 128) (x y : Plate), t[i] = some x → t[j] = some y → x.id = y.id → i = j) :
    t.find id = some p ↔ p.id = id ∧ ∃ i : Fin 128, t[i] = some p := by
  refine ⟨mem_of_find, fun ⟨hid, i, hi⟩ => ?_⟩
  cases hfound : t.find id with
  | none =>
    have hskipped := List.findSome?_eq_none_iff.mp hfound (some p)
      (Vector.mem_toList_iff.mpr (hi ▸ Vector.getElem_mem i.isLt))
    simp [hid] at hskipped
  | some q =>
    obtain ⟨hq, j, hj⟩ := mem_of_find hfound
    obtain rfl := unique i j p q hi hj (hid.trans hq.symm)
    exact hj.symm.trans hi

/-- R67: a plate is valid for a station's rail when the table has it under its id and its mask names the rail. -/
theorem PlateTable.validFor_eq_some_iff {t : PlateTable} {id : Half} {rail : Fin 4} {p : Plate} :
    t.validFor id rail = some p ↔ t.find id = some p ∧ p.mask.getLsbD rail.val = true := by
  unfold PlateTable.validFor
  cases t.find id with
  | none => simp
  | some q =>
    by_cases hmask : q.mask.getLsbD rail.val = true
    · simp only [hmask, if_true, Option.some.injEq]
      exact ⟨fun h => ⟨h, h ▸ hmask⟩, And.left⟩
    · simp only [hmask]
      refine ⟨fun h => (nomatch h), fun ⟨h, hp⟩ => ?_⟩
      obtain rfl := Option.some.inj h
      exact absurd hp hmask

/-- R67: the plate valid for a station stands in its carriage's table under the id asked for. -/
theorem State.find_of_plateFor {s : State} {n : Fin 64} {id : Half} {p : Plate} (h : s.plateFor n id = some p) :
    PlateTable.find s.settings.plates[s.home n] id = some p := (PlateTable.validFor_eq_some_iff.mp h).1

/-- R67: the plate valid for a station has the id asked for. -/
theorem State.plateFor_id {s : State} {n : Fin 64} {id : Half} {p : Plate} (h : s.plateFor n id = some p) :
    p.id = id := (PlateTable.mem_of_find (find_of_plateFor h)).1

end Sys2Proof.Machine
end
section
/-! PROOF. The taking of a slot (R71 to R73, R75, R77, R78): its branches, and what it makes of the reckoning fields. -/

namespace Sys2Proof.Machine

/-! ## The position of a station (R72, R73) -/

/-- R72: the position of station n from its own base and a slot, before the clamp; absent without a base. -/
def State.unclamped (s : State) (n : Fin 64) (slot : Slot) : Option Int :=
  (s.baseValue n).map fun b => stationPosition b slot (s.st n).scale (s.stCfg n).mount

theorem State.baseValue_none {s : State} {n : Fin 64} (h : (s.st n).reckoning.base = none) : s.baseValue n = none := by
  simp [State.baseValue, h]

theorem State.baseValue_seed {s : State} {n : Fin 64} {b : Int} (h : (s.st n).reckoning.base = some (.seed b)) :
    s.baseValue n = some b := by
  simp [State.baseValue, h]

theorem State.baseValue_plate {s : State} {n : Fin 64} {id : Half} {p : Plate}
    (h : (s.st n).reckoning.base = some (.plate id)) (hp : s.plateFor n id = some p) :
    s.baseValue n = some p.position := by
  simp only [State.baseValue, h, State.find_of_plateFor hp, Option.map_some]

/-- R71 to R73, R75: reckoning fields whose plate has been seen to, after the rest of a slot's taking: the counts
advance, the position is formed at `place`, and the last fields are the slot's. -/
def Reckoning.taking (k : Reckoning) (increment : Int) (place : Option Int) (slot : Slot) (sequence : Half) :
    Reckoning :=
  { kind := k.kind
    base := k.base
    lastPlate := some slot.plate
    lastCounts := slot.counts
    lastSpeed := slot.speed
    lastRound := sequence
    lastPosition := place.map (clampInt coordinateMin coordinateMax)
    cumulative := k.cumulative + increment
    exclusion := if place.all inCoordinates then k.exclusion else some .implausible }

/-- R71, R75: the increment of the cumulative counts when station n takes the slot in this hand-off. -/
def State.incrementFor (s : State) (h : HandOff) (n : Fin 64) (slot : Slot) : Int :=
  countIncrement (s.st n).reckoning slot (s.st n).scale
    (elapsedMs h.settings.period h.sequence (s.st n).reckoning.lastRound)

/-- R71: the state once the plate of a slot has been seen to. -/
def State.sighted (s : State) (h : HandOff) (n : Fin 64) (slot : Slot) : State :=
  s.seePlate n slot (elapsedMs h.settings.period h.sequence (s.st n).reckoning.lastRound)

/-- Two changes of one station's record are one. -/
theorem State.modSt_modSt (s : State) (n : Fin 64) (f g : Station → Station) :
    (s.modSt n f).modSt n g = s.modSt n (g ∘ f) := by
  simp [State.modSt]

/-- R71: after the plate passage only the station's own reckoning fields change. -/
theorem State.takeSlot_eq (s : State) (h : HandOff) (n : Fin 64) (slot : Slot) :
    s.takeSlot h n slot = (s.sighted h n slot).modSt n fun st =>
      { st with reckoning := st.reckoning.taking (s.incrementFor h n slot) ((s.sighted h n slot).unclamped n slot) slot
                               h.sequence } := by
  have hbase : ∀ x : Int, ((s.sighted h n slot).modSt n fun st =>
      { st with reckoning := { st.reckoning with cumulative := st.reckoning.cumulative + x } }).baseValue n =
      (s.sighted h n slot).baseValue n := fun x => by simp [State.baseValue]
  change (State.formPosition ((s.sighted h n slot).modSt n fun st =>
      { st with reckoning := { st.reckoning with cumulative := st.reckoning.cumulative + s.incrementFor h n slot } })
      n slot).setLast n slot h.sequence = _
  unfold State.formPosition State.unclamped
  rw [hbase]
  cases (s.sighted h n slot).baseValue n with
  | none =>
    simp only [State.setLast, State.modSt_modSt]
    rfl
  | some b =>
    simp only [State.setLast, State.modSt_modSt, State.st_modSt_self, State.modSt_stCfg]
    rfl

theorem State.takeSlot_reckoning (s : State) (h : HandOff) (n : Fin 64) (slot : Slot) :
    ((s.takeSlot h n slot).st n).reckoning = ((s.sighted h n slot).st n).reckoning.taking (s.incrementFor h n slot)
      ((s.sighted h n slot).unclamped n slot) slot h.sequence := by
  simp [State.takeSlot_eq]

theorem State.takeSlot_link (s : State) (h : HandOff) (n : Fin 64) (slot : Slot) :
    (s.takeSlot h n slot).link = (s.sighted h n slot).link := by
  simp [State.takeSlot_eq]

/-! ## The plate of a slot (R77, R78) -/

/-- R77: no passage while the last plate is absent or the same. -/
theorem State.seePlate_unpassed {s : State} {n : Fin 64} {slot : Slot} (elapsed : Nat)
    (h : (s.st n).reckoning.lastPlate = none ∨ (s.st n).reckoning.lastPlate = some slot.plate) :
    s.seePlate n slot elapsed = s := by
  obtain h | h := h <;> simp [State.seePlate, h]

/-- R77: a passage to no plate, or to one that is not valid for the station, loses the reference. -/
theorem State.seePlate_lost {s : State} {n : Fin 64} {slot : Slot} {last : Half} (elapsed : Nat)
    (hlast : (s.st n).reckoning.lastPlate = some last) (hnew : slot.plate ≠ last)
    (h : slot.plate = 0 ∨ s.plateFor n slot.plate = none) :
    s.seePlate n slot elapsed = s.losePlate n slot.plate := by
  have hfound : (if slot.plate = 0 then none else s.plateFor n slot.plate) = none := by
    obtain h | h := h <;> simp [h]
  simp only [State.seePlate, hlast, hnew, if_false, hfound]

/-- R77: a passage to a plate that is valid for the station. -/
theorem State.seePlate_passed {s : State} {n : Fin 64} {slot : Slot} {last : Half} {p : Plate} (elapsed : Nat)
    (hlast : (s.st n).reckoning.lastPlate = some last) (hnew : slot.plate ≠ last) (hplate : slot.plate ≠ 0)
    (hp : s.plateFor n slot.plate = some p) :
    s.seePlate n slot elapsed = s.passPlate n slot p elapsed := by
  simp only [State.seePlate, hlast, hnew, hplate, if_false, hp]

/-- R78: the slip check of a passage. -/
def State.passesSlip (s : State) (n : Fin 64) (slot : Slot) (plate : Plate) (elapsed : Nat) : Prop :=
  ∀ q, (s.st n).reckoning.lastPosition = some q →
    (stationPosition plate.position slot (s.st n).scale (s.stCfg n).mount -
      (q + rounded ((s.st n).reckoning.lastSpeed * elapsed) 1000)).natAbs ≤ (s.cfg (s.home n)).slipLimit

theorem State.passPlate_admitted {s : State} {n : Fin 64} {slot : Slot} {plate : Plate} {elapsed : Nat}
    (h : s.passesSlip n slot plate elapsed) :
    s.passPlate n slot plate elapsed = s.modSt n fun st =>
      { st with reckoning := { st.reckoning with kind := .referenced, base := some (.plate plate.id),
                                                  exclusion := none } } := by
  unfold State.passPlate
  dsimp only
  split
  · rfl
  · next last hlast => exact if_pos (h last hlast)

theorem State.passPlate_slipped {s : State} {n : Fin 64} {slot : Slot} {plate : Plate} {elapsed : Nat}
    (h : ¬ s.passesSlip n slot plate elapsed) :
    ∃ slip, s.passPlate n slot plate elapsed = (s.modSt n fun st =>
      { st with reckoning := { st.reckoning with kind := .none, base := some (.plate plate.id),
                                                  exclusion := some .slip } }).post
        (.slip (s.home n) n plate.id slip) := by
  unfold State.passPlate
  dsimp only
  split
  · next hlast => exact absurd (fun q hq => by simp [hlast] at hq) h
  · next last hlast =>
    refine ⟨_, if_neg fun hle => h fun q hq => ?_⟩
    obtain rfl := Option.some.inj (hlast.symm.trans hq)
    exact hle

/-! ## What the taking makes of the reckoning fields -/

theorem countIncrement_first {k : Reckoning} {slot : Slot} (scale elapsed : Nat) (h : k.lastPlate = none) :
    countIncrement k slot scale elapsed = 0 := by
  simp [countIncrement, h]

theorem countIncrement_same {k : Reckoning} {slot : Slot} (scale elapsed : Nat) (h : k.lastPlate = some slot.plate) :
    countIncrement k slot scale elapsed = slot.counts - k.lastCounts := by
  simp [countIncrement, h]

theorem countIncrement_passed {k : Reckoning} {slot : Slot} {last : Half} (scale elapsed : Nat)
    (h : k.lastPlate = some last) (hnew : slot.plate ≠ last) :
    countIncrement k slot scale elapsed = rounded (k.lastSpeed * elapsed) scale := by
  simp [countIncrement, h, hnew]

@[simp] theorem State.losePlate_st (s : State) (n : Fin 64) (id : Half) : (s.losePlate n id).st n =
    { s.st n with reckoning := { (s.st n).reckoning with kind := .none, base := none,
                                                          exclusion := some .unreferenced } } := by
  simp [State.losePlate]

/-- R77: the flag of the event PLATE_UNKNOWN is set. -/
theorem State.losePlate_flag (s : State) (n : Fin 64) (id : Half) :
    (s.losePlate n id).link.flag (.ofCarriage (s.home n) .plateUnknown) = true :=
  Link.post_flag_of _ _ _ _ (Or.inr (by simp [Event.flags]))

/-- R73: a formed position inside the coordinate range leaves the exclusion; one outside makes it IMPLAUSIBLE. -/
theorem Reckoning.taking_placed (k : Reckoning) (increment x : Int) (slot : Slot) (sequence : Half) :
    (k.taking increment (some x) slot sequence).lastPosition = some (clampInt coordinateMin coordinateMax x) ∧
    (inCoordinates x = true → (k.taking increment (some x) slot sequence).exclusion = k.exclusion) ∧
    (inCoordinates x = false → (k.taking increment (some x) slot sequence).exclusion = some .implausible) := by
  refine ⟨rfl, fun hx => ?_, fun hx => ?_⟩ <;> simp [Reckoning.taking, hx]

/-- R72, R77: without a passage the reference stands and the position is formed from the station's own base. -/
theorem State.takeSlot_unpassed {s : State} {n : Fin 64} {slot : Slot} (h : HandOff)
    (hlast : (s.st n).reckoning.lastPlate = none ∨ (s.st n).reckoning.lastPlate = some slot.plate) :
    ((s.takeSlot h n slot).st n).reckoning =
      (s.st n).reckoning.taking (s.incrementFor h n slot) (s.unclamped n slot) slot h.sequence := by
  rw [State.takeSlot_reckoning, State.sighted, State.seePlate_unpassed _ hlast]

/-- R77: a passage to an unknown plate leaves the station without kind, base and position. -/
theorem State.takeSlot_lost {s : State} {n : Fin 64} {slot : Slot} {last : Half} (h : HandOff)
    (hlast : (s.st n).reckoning.lastPlate = some last) (hnew : slot.plate ≠ last)
    (hp : slot.plate = 0 ∨ s.plateFor n slot.plate = none) :
    ((s.takeSlot h n slot).st n).reckoning =
      { (s.st n).reckoning with kind := .none, base := none, exclusion := some .unreferenced }.taking
        (s.incrementFor h n slot) none slot h.sequence ∧
    (s.takeSlot h n slot).link.flag (.ofCarriage (s.home n) .plateUnknown) = true := by
  have hsighted : s.sighted h n slot = s.losePlate n slot.plate := State.seePlate_lost _ hlast hnew hp
  rw [State.takeSlot_reckoning, State.takeSlot_link, hsighted, State.unclamped, State.baseValue_none (by simp)]
  exact ⟨by rw [State.losePlate_st, Option.map_none], State.losePlate_flag s n slot.plate⟩

/-- R78: a passage that passes its slip check makes the station REFERENCED on the plate. -/
theorem State.takeSlot_admitted {s : State} {n : Fin 64} {slot : Slot} {last : Half} {p : Plate} (h : HandOff)
    (hlast : (s.st n).reckoning.lastPlate = some last) (hnew : slot.plate ≠ last) (hplate : slot.plate ≠ 0)
    (hp : s.plateFor n slot.plate = some p)
    (hslip : s.passesSlip n slot p (elapsedMs h.settings.period h.sequence (s.st n).reckoning.lastRound)) :
    ((s.takeSlot h n slot).st n).reckoning =
      { (s.st n).reckoning with kind := .referenced, base := some (.plate slot.plate), exclusion := none }.taking
        (s.incrementFor h n slot) (some (stationPosition p.position slot (s.st n).scale (s.stCfg n).mount)) slot
        h.sequence := by
  rw [State.takeSlot_reckoning, State.sighted, State.seePlate_passed _ hlast hnew hplate hp,
    State.passPlate_admitted hslip, State.unclamped, State.baseValue_plate (by simp) (State.plateFor_id hp ▸ hp)]
  simp [State.plateFor_id hp, Station.scale]

/-- R78: a passage that fails its slip check leaves the station without kind, on the plate, with the event SLIP. -/
theorem State.takeSlot_slipped {s : State} {n : Fin 64} {slot : Slot} {last : Half} {p : Plate} (h : HandOff)
    (hlast : (s.st n).reckoning.lastPlate = some last) (hnew : slot.plate ≠ last) (hplate : slot.plate ≠ 0)
    (hp : s.plateFor n slot.plate = some p)
    (hslip : ¬ s.passesSlip n slot p (elapsedMs h.settings.period h.sequence (s.st n).reckoning.lastRound)) :
    ((s.takeSlot h n slot).st n).reckoning =
      { (s.st n).reckoning with kind := .none, base := some (.plate slot.plate), exclusion := some .slip }.taking
        (s.incrementFor h n slot) (some (stationPosition p.position slot (s.st n).scale (s.stCfg n).mount)) slot
        h.sequence ∧
    (s.takeSlot h n slot).link.flag (.ofCarriage (s.home n) .slip) = true := by
  obtain ⟨slip, hpassed⟩ := State.passPlate_slipped hslip
  rw [State.takeSlot_reckoning, State.takeSlot_link, State.sighted, State.seePlate_passed _ hlast hnew hplate hp,
    hpassed, State.unclamped, State.baseValue_plate (by simp) (State.plateFor_id hp ▸ hp)]
  exact ⟨by simp [State.plateFor_id hp, Station.scale],
    Link.post_flag_of _ _ _ _ (Or.inr (by simp [Event.flags]))⟩

end Sys2Proof.Machine
end
section
/-! PROOF. What a ring's completion leaves of one station: the operations on other stations, and what the reckoning of
a station reads (R19 to R25, R52, R53, R71 to R87). -/

namespace Sys2Proof.Machine

/-! ## Folds in which one element counts -/

/-- A left fold of operations that stand in a relation that composes, for the elements of the list. -/
theorem foldl_rel_mem {α β : Type} {R : α → α → Prop} (refl : ∀ s, R s s) (trans : ∀ {s t u}, R s t → R t u → R s u)
    {f : α → β → α} : ∀ {xs : List β}, (∀ s, ∀ x ∈ xs, R s (f s x)) → ∀ s, R s (xs.foldl f s)
  | [], _, s => refl s
  | x :: _, h, s =>
    trans (h s x List.mem_cons_self)
      (foldl_rel_mem refl trans (fun s y hy => h s y (List.mem_cons_of_mem x hy)) (f s x))

/-- A left fold over a list in which x stands once: before and after x the other elements leave the relation. -/
theorem foldl_once {α β : Type} {R : α → α → Prop} (refl : ∀ s, R s s) (trans : ∀ {s t u}, R s t → R t u → R s u)
    {f : α → β → α} {x : β} (other : ∀ s y, y ≠ x → R s (f s y)) {xs : List β} (nodup : xs.Nodup) (hx : x ∈ xs)
    (s : α) : ∃ u, R s u ∧ R (f u x) (xs.foldl f s) := by
  obtain ⟨before, after, rfl⟩ := List.append_of_mem hx
  obtain ⟨-, hrest, hdisjoint⟩ := List.nodup_append.mp nodup
  obtain ⟨hnotin, -⟩ := List.nodup_cons.mp hrest
  have hbefore : ∀ y ∈ before, y ≠ x := fun y hy => hdisjoint y hy x List.mem_cons_self
  have hafter : ∀ y ∈ after, y ≠ x := fun y hy h => hnotin (h ▸ hy)
  refine ⟨before.foldl f s, foldl_rel_mem refl trans (fun s y hy => other s y (hbefore y hy)) s, ?_⟩
  rw [List.foldl_append, List.foldl_cons]
  exact foldl_rel_mem refl trans (fun s y hy => other s y (hafter y hy)) _

/-! ## What the reckoning of a station reads -/

/-- Two states agree on what the reckoning of station n reads and writes: the settings, and the station's state,
identity and reckoning fields. -/
structure AgreeAt (n : Fin 64) (s t : State) : Prop where
  settings : t.settings = s.settings
  state : (t.st n).state = (s.st n).state
  identity : (t.st n).identity = (s.st n).identity
  reckoning : (t.st n).reckoning = (s.st n).reckoning

namespace AgreeAt

variable {n : Fin 64} {s t u : State}

theorem refl (n : Fin 64) (s : State) : AgreeAt n s s := ⟨rfl, rfl, rfl, rfl⟩

theorem trans (h : AgreeAt n s t) (g : AgreeAt n t u) : AgreeAt n s u :=
  ⟨g.settings.trans h.settings, g.state.trans h.state, g.identity.trans h.identity, g.reckoning.trans h.reckoning⟩

/-- A change that leaves the settings and the whole record of the station. -/
theorem of_st (hsettings : t.settings = s.settings) (hst : t.st n = s.st n) : AgreeAt n s t :=
  ⟨hsettings, by rw [hst], by rw [hst], by rw [hst]⟩

theorem modSt_other {m : Fin 64} (hm : m ≠ n) (s : State) (f : Station → Station) : AgreeAt n s (s.modSt m f) :=
  of_st rfl (by simp [State.st_modSt, hm])

/-- Posting an event in each of two states. -/
theorem post (h : AgreeAt n s t) (e e' : Event) : AgreeAt n (s.post e) (t.post e') :=
  ⟨h.settings, h.state, h.identity, h.reckoning⟩

theorem post_right (h : AgreeAt n s t) (e : Event) : AgreeAt n s (t.post e) :=
  ⟨h.settings, h.state, h.identity, h.reckoning⟩

/-- The same change of the station's reckoning fields in both states. -/
theorem modReckoning (h : AgreeAt n s t) (g : Reckoning → Reckoning) :
    AgreeAt n (s.modSt n fun st => { st with reckoning := g st.reckoning })
      (t.modSt n fun st => { st with reckoning := g st.reckoning }) :=
  ⟨h.settings, by simp [h.state], by simp [h.identity], by simp [h.reckoning]⟩

theorem stCfg (h : AgreeAt n s t) (m : Fin 64) : t.stCfg m = s.stCfg m := by simp [State.stCfg, h.settings]
theorem home (h : AgreeAt n s t) (m : Fin 64) : t.home m = s.home m := by simp [State.home, h.stCfg]
theorem cfg (h : AgreeAt n s t) (c : Fin 6) : t.cfg c = s.cfg c := by simp [State.cfg, h.settings]
theorem scale (h : AgreeAt n s t) : (t.st n).scale = (s.st n).scale := by simp [Station.scale, h.identity]
theorem plateFor (h : AgreeAt n s t) (id : Half) : t.plateFor n id = s.plateFor n id := by
  simp [State.plateFor, h.home, h.stCfg, h.settings]
theorem takenSlot (h : AgreeAt n s t) (d : HandOff) : t.takenSlot d n = s.takenSlot d n := by
  simp [State.takenSlot, h.state, h.stCfg]
theorem unclamped (h : AgreeAt n s t) (slot : Slot) : t.unclamped n slot = s.unclamped n slot := by
  simp [State.unclamped, State.baseValue, h.reckoning, h.settings, h.home, h.scale, h.stCfg]
theorem incrementFor (h : AgreeAt n s t) (d : HandOff) (slot : Slot) :
    t.incrementFor d n slot = s.incrementFor d n slot := by
  simp [State.incrementFor, h.reckoning, h.scale]

end AgreeAt

/-! ## The taking of a slot, in the station itself and beside it -/

theorem AgreeAt.losePlate {n : Fin 64} {s t : State} (h : AgreeAt n s t) (id : Half) :
    AgreeAt n (s.losePlate n id) (t.losePlate n id) :=
  (h.modReckoning fun k => { k with kind := .none, base := none, exclusion := some .unreferenced }).post _ _

theorem AgreeAt.passPlate {n : Fin 64} {s t : State} (h : AgreeAt n s t) (slot : Slot) (p : Plate) (elapsed : Nat) :
    AgreeAt n (s.passPlate n slot p elapsed) (t.passPlate n slot p elapsed) := by
  have hcheck : t.passesSlip n slot p elapsed ↔ s.passesSlip n slot p elapsed := by
    simp [State.passesSlip, h.reckoning, h.scale, h.stCfg, h.cfg, h.home]
  by_cases hpass : s.passesSlip n slot p elapsed
  · rw [State.passPlate_admitted hpass, State.passPlate_admitted (hcheck.mpr hpass)]
    exact h.modReckoning fun k => { k with kind := .referenced, base := some (.plate p.id), exclusion := none }
  · obtain ⟨x, hs⟩ := State.passPlate_slipped hpass
    obtain ⟨y, ht⟩ := State.passPlate_slipped (mt hcheck.mp hpass)
    rw [hs, ht]
    exact (h.modReckoning fun k =>
      { k with kind := .none, base := some (.plate p.id), exclusion := some .slip }).post _ _

theorem AgreeAt.sighted {n : Fin 64} {s t : State} (h : AgreeAt n s t) (d : HandOff) (slot : Slot) :
    AgreeAt n (s.sighted d n slot) (t.sighted d n slot) := by
  unfold State.sighted State.seePlate
  rw [h.reckoning, h.plateFor]
  split
  · exact h
  · split
    · exact h
    · split
      · exact h.losePlate slot.plate
      · exact h.passPlate slot _ _

/-- What the taking of a slot makes of a station depends only on what its reckoning reads. -/
theorem AgreeAt.takeSlot {n : Fin 64} {s t : State} (h : AgreeAt n s t) (d : HandOff) (slot : Slot) :
    AgreeAt n (s.takeSlot d n slot) (t.takeSlot d n slot) := by
  rw [State.takeSlot_eq, State.takeSlot_eq, h.incrementFor, (h.sighted d slot).unclamped]
  exact (h.sighted d slot).modReckoning fun k => k.taking _ _ slot d.sequence

theorem AgreeAt.passPlate_other {m n : Fin 64} (hm : m ≠ n) (s : State) (slot : Slot) (p : Plate) (elapsed : Nat) :
    AgreeAt n s (s.passPlate m slot p elapsed) := by
  by_cases hpass : s.passesSlip m slot p elapsed
  · rw [State.passPlate_admitted hpass]
    exact .modSt_other hm s _
  · obtain ⟨x, hs⟩ := State.passPlate_slipped hpass
    rw [hs]
    exact (modSt_other hm s _).post_right _

theorem AgreeAt.sighted_other {m n : Fin 64} (hm : m ≠ n) (s : State) (d : HandOff) (slot : Slot) :
    AgreeAt n s (s.sighted d m slot) := by
  unfold State.sighted State.seePlate
  split
  · exact .refl n s
  · split
    · exact .refl n s
    · split
      · exact (modSt_other hm s _).post_right _
      · exact .passPlate_other hm s slot _ _

theorem AgreeAt.reckonStation_other {m n : Fin 64} (hm : m ≠ n) (d : HandOff) (s : State) :
    AgreeAt n s (s.reckonStation d m) := by
  unfold State.reckonStation
  split
  · rw [State.takeSlot_eq]
    exact (AgreeAt.sighted_other hm s d _).trans (.modSt_other hm _ _)
  · exact .refl n s

theorem AgreeAt.reckonStation {n : Fin 64} {s t : State} (h : AgreeAt n s t) (d : HandOff) :
    AgreeAt n (s.reckonStation d n) (t.reckonStation d n) := by
  unfold State.reckonStation
  rw [h.takenSlot]
  split
  · exact h.takeSlot d _
  · exact h

/-! ## A change of another station's state, and its requests (R36, R61 to R64) -/

/-- A station's record but for the request kept in it, which a freed place of the service queue can take (R63). -/
def Station.core (st : Station) : Station := { st with pendingRequest := none }

/-- The round in flight on ring r, if there is one, carries no service request. -/
def State.unasked (s : State) (r : RingId) : Prop := (s.ring r).inFlight.bind Round.request = none

/-- Work on other stations: the settings and the record of station n stand, but for its pending request, and a round
that carries no request on ring r still carries none. -/
structure Spared (r : RingId) (n : Fin 64) (s t : State) : Prop where
  settings : t.settings = s.settings
  core : (t.st n).core = (s.st n).core
  unasked : s.unasked r → t.unasked r

namespace Spared

variable {r : RingId} {n : Fin 64} {s t u : State}

theorem refl (r : RingId) (n : Fin 64) (s : State) : Spared r n s s := ⟨rfl, rfl, id⟩

theorem trans (h : Spared r n s t) (g : Spared r n t u) : Spared r n s u :=
  ⟨g.settings.trans h.settings, g.core.trans h.core, g.unasked ∘ h.unasked⟩

theorem state (h : Spared r n s t) : (t.st n).state = (s.st n).state :=
  (congrArg Station.state h.core :)
theorem misses (h : Spared r n s t) : (t.st n).misses = (s.st n).misses :=
  (congrArg Station.misses h.core :)

theorem agreeAt (h : Spared r n s t) : AgreeAt n s t :=
  ⟨h.settings, h.state, (congrArg Station.identity h.core :), (congrArg Station.reckoning h.core :)⟩

theorem modSt_core {m : Fin 64} {f : Station → Station} (hf : m = n → ∀ st, (f st).core = st.core) (s : State) :
    Spared r n s (s.modSt m f) := by
  refine ⟨rfl, ?_, by simp [State.unasked]⟩
  rw [State.st_modSt]
  split
  · next h => exact hf h _
  · rfl

theorem modSt_other {m : Fin 64} (hm : m ≠ n) (s : State) (f : Station → Station) : Spared r n s (s.modSt m f) :=
  modSt_core (fun h => absurd h hm) s

theorem modRing {q : RingId} {f : Ring → Ring}
    (hf : ∀ g : Ring, g.inFlight.bind Round.request = none → (f g).inFlight.bind Round.request = none) (s : State) :
    Spared r n s (s.modRing q f) := by
  refine ⟨by simp, by simp, fun h => ?_⟩
  unfold State.unasked at h ⊢
  rw [State.ring_modRing]
  split
  · exact hf _ h
  · exact h

theorem post (s : State) (e : Event) : Spared r n s (s.post e) := ⟨rfl, rfl, id⟩

theorem posts (s : State) (ps : List Post) : Spared r n s { s with posts := ps } := ⟨rfl, rfl, id⟩

theorem promote (s : State) (q : RingId) : Spared r n s (s.promote q) := by
  unfold State.promote
  split
  · split
    · exact refl r n s
    · split
      · exact (modRing (by intro _; exact id) s).trans (modSt_core (by intros; rfl) _)
      · exact modRing (by intro _; exact id) s
  · exact refl r n s

theorem dropRequests (s : State) (m : Fin 64) : Spared r n s (s.dropRequests m) := by
  have hforget : ∀ g : Ring, g.inFlight.bind Round.request = none →
      (g.inFlight.map (·.forget m)).bind Round.request = none := fun g h => by
    cases hf : g.inFlight with
    | none => rfl
    | some f =>
      have hnone : f.request = none := by simpa [hf] using h
      simp [Round.forget, hnone]
  unfold State.dropRequests
  dsimp only
  split
  · exact ((modRing hforget s).trans (modSt_core (by intros; rfl) _)).trans (promote _ _)
  · exact (modRing hforget s).trans (modSt_core (by intros; rfl) _)

theorem raiseRequest (s : State) (m : Fin 64) (k : ServiceKind) (d : Option ParamSet) :
    Spared r n s (s.raiseRequest m k d) := by
  unfold State.raiseRequest
  dsimp only
  split
  · exact modRing (by intro _; exact id) s
  · split
    · exact modSt_core (by intros; rfl) s
    · split
      · exact modRing (by intro _; exact id) s
      · exact (modRing (by intro _; exact id) s).trans (modSt_core (by intros; rfl) _)

theorem enterStation {m : Fin 64} (hm : m ≠ n) (s : State) (new : StationState) (reason : StationReason) :
    Spared r n s (s.enterStation m new reason) := by
  unfold State.enterStation State.changeStation
  dsimp only
  split
  · exact refl r n s
  · split
    · exact (((dropRequests s m).trans (modSt_other hm _ _)).trans (post _ _)).trans (posts _ _)
    · exact ((modSt_other hm s _).trans (post _ _)).trans (posts _ _)

end Spared

end Sys2Proof.Machine
end
section
/-! PROOF. What a completion's station records leave of a driven station whose slot is good, or is a miss that does not
reach the loss limit (R19 to R21, R32, R52, R53). -/

namespace Sys2Proof.Machine

/-! ## The outcomes of a completion that do not arise -/

theorem State.faultOutcome_clear {slot : Option Slot} (h : shownIn slot Slot.driveFault = false) (s : State)
    (n : Fin 64) : s.faultOutcome n slot = s := by
  simp [State.faultOutcome, h]

theorem State.lossOutcome_below {s : State} {n : Fin 64} {limit : Nat} (h : (s.st n).misses < limit) :
    s.lossOutcome n limit = s := by
  have hkept : ¬ ((s.st n).state.canBeLost && decide (limit ≤ (s.st n).misses)) = true := fun hlost => by
    rw [Bool.and_eq_true, decide_eq_true_eq] at hlost
    exact Nat.not_le_of_lt h hlost.2
  exact if_neg hkept

theorem State.serviceOutcome_unasked {s : State} {r : RingId} (h : s.unasked r) (n : Fin 64)
    (answer : Option ServiceAnswer) : s.serviceOutcome r n answer = s := by
  unfold State.unasked at h
  simp [State.serviceOutcome, h]

theorem State.presentOutcome_driven {s : State} {n : Fin 64} (h : (s.st n).state.isDriven = true)
    (slot : Option Slot) : s.presentOutcome n slot = s := by
  unfold State.presentOutcome
  split
  · split
    · next hoff => simp [hoff, StationState.isDriven] at h
    · next hlost => simp [hlost, StationState.isDriven] at h
    all_goals rfl
  · rfl

/-! ## A completion at another station -/

namespace Spared

variable {r : RingId} {m n : Fin 64} {s : State}

theorem takeReport (hm : m ≠ n) (s : State) (sequence : Half) (marked : Bool) (slot : Option Slot) :
    Spared r n s (s.takeReport m sequence marked slot) := modSt_other hm s _

theorem faultOutcome (hm : m ≠ n) (s : State) (slot : Option Slot) : Spared r n s (s.faultOutcome m slot) := by
  unfold State.faultOutcome
  split
  · split
    case h_1 | h_2 | h_3 => exact refl r n s
    case h_4 | h_5 => exact modSt_other hm s _
    all_goals exact enterStation hm s _ _
  · exact refl r n s

theorem lossOutcome (hm : m ≠ n) (s : State) (limit : Nat) : Spared r n s (s.lossOutcome m limit) := by
  unfold State.lossOutcome
  split
  · exact enterStation hm s _ _
  · exact refl r n s

theorem limitOutcome (hm : m ≠ n) (s : State) (slot : Option Slot) : Spared r n s (s.limitOutcome m slot) := by
  unfold State.limitOutcome
  split
  · exact refl r n s
  · split
    · split
      · exact modSt_other hm s _
      · split
        · exact (modSt_other hm s _).trans (posts _ _)
        · exact refl r n s
    · exact refl r n s

theorem presentOutcome (hm : m ≠ n) (s : State) (slot : Option Slot) : Spared r n s (s.presentOutcome m slot) := by
  unfold State.presentOutcome
  split
  · split
    case h_1 | h_2 => exact (enterStation hm s _ _).trans (raiseRequest _ _ _ _)
    all_goals exact refl r n s
  · exact refl r n s

/-- R53: a completion at another station, of a round that carries no request. -/
theorem completeStation (hm : m ≠ n) (hasks : s.unasked r) (f : Round) (marked : Bool) (slot : Option Slot) :
    Spared r n s (s.completeStation r f m marked slot) := by
  have hreports : ∀ limit, Spared r n s
      ((((s.takeReport m f.sequence marked slot).faultOutcome m slot).lossOutcome m limit).limitOutcome m slot) :=
    fun limit => (((takeReport hm s f.sequence marked slot).trans (faultOutcome hm _ slot)).trans
      (lossOutcome hm _ limit)).trans (limitOutcome hm _ slot)
  unfold State.completeStation
  dsimp only
  rw [State.serviceOutcome_unasked ((hreports _).unasked hasks)]
  exact (hreports _).trans (presentOutcome hm _ slot)

end Spared

/-! ## A completion at the station itself -/

/-- R19, R21: a report leaves what the reckoning of the station reads, and its request. -/
theorem AgreeAt.takeReport (n : Fin 64) (s : State) (sequence : Half) (marked : Bool) (slot : Option Slot) :
    AgreeAt n s (s.takeReport n sequence marked slot) := by
  refine ⟨rfl, ?_, ?_, ?_⟩ <;> simp [State.takeReport]

theorem AgreeAt.limitOutcome (n : Fin 64) (s : State) (slot : Option Slot) :
    AgreeAt n s (s.limitOutcome n slot) := by
  unfold State.limitOutcome
  split
  · exact .refl n s
  · split
    · split
      · refine ⟨rfl, ?_, ?_, ?_⟩ <;> simp
      · split
        · refine ⟨rfl, ?_, ?_, ?_⟩ <;> simp
        · exact .refl n s
    · exact .refl n s

theorem State.limitOutcome_ring (s : State) (n : Fin 64) (slot : Option Slot) (r : RingId) :
    (s.limitOutcome n slot).ring r = s.ring r := by
  unfold State.limitOutcome
  split
  · rfl
  · split
    · split
      · simp
      · split
        · simp
        · rfl
    · rfl

/-- R52: the misses of a station after a report. -/
def nextMisses (misses : Nat) (marked : Bool) (sequence : Half) (slot : Option Slot) : Nat :=
  if goodSlot marked sequence slot then 0 else min 255 (misses + 1)

theorem State.takeReport_misses {s : State} {n : Fin 64} (h : (s.st n).state.isDriven = true) (sequence : Half)
    (marked : Bool) (slot : Option Slot) :
    ((s.takeReport n sequence marked slot).st n).misses = nextMisses (s.st n).misses marked sequence slot := by
  have hserves : (s.st n).state ≠ .retired := fun hr => by simp [hr, StationState.isDriven] at h
  simp [State.takeReport, nextMisses, hserves]

/-- R53: at a completion of a round that carries no request, a driven station that shows no drive fault and has not
missed too often keeps what its reckoning reads. -/
theorem AgreeAt.completeStation {r : RingId} {n : Fin 64} {s : State} {f : Round} {marked : Bool} {slot : Option Slot}
    (hasks : s.unasked r) (hdriven : (s.st n).state.isDriven = true) (hfault : shownIn slot Slot.driveFault = false)
    (hmisses : nextMisses (s.st n).misses marked f.sequence slot < (s.ringCfg r).lossLimit) :
    AgreeAt n s (s.completeStation r f n marked slot) ∧ (s.completeStation r f n marked slot).unasked r := by
  have hreport := AgreeAt.takeReport n s f.sequence marked slot
  have hlimited := hreport.trans (.limitOutcome n _ slot)
  have hstill : ((s.takeReport n f.sequence marked slot).limitOutcome n slot).unasked r := by
    unfold State.unasked
    rw [State.limitOutcome_ring]
    simpa [State.takeReport, State.unasked] using hasks
  have hbelow : ((s.takeReport n f.sequence marked slot).st n).misses <
      ((s.takeReport n f.sequence marked slot).ringCfg r).lossLimit := by
    rw [State.takeReport_misses hdriven]
    exact hmisses
  have hdone : s.completeStation r f n marked slot =
      (s.takeReport n f.sequence marked slot).limitOutcome n slot := by
    unfold State.completeStation
    dsimp only
    rw [State.faultOutcome_clear hfault, State.lossOutcome_below hbelow, State.serviceOutcome_unasked hstill,
      State.presentOutcome_driven (hlimited.state ▸ hdriven)]
  rw [hdone]
  exact ⟨hlimited, hstill⟩

/-! ## All nodes of a completion (R53) -/

/-- R16: the occupant of a node is an enabled station of the ring whose configuration names the node. -/
theorem State.occupant_spec {s : State} {r : RingId} {node : Fin 40} {n : Fin 64} (h : s.occupant r node = some n) :
    s.onRing r n = true ∧ (s.stCfg n).node = node := by
  simpa using List.find?_some h

/-- Work that leaves the settings leaves the occupants. -/
theorem State.occupant_congr {s t : State} (h : t.settings = s.settings) (r : RingId) (node : Fin 40) :
    t.occupant r node = s.occupant r node := by
  unfold State.occupant State.onRing State.ringOf State.home State.stCfg State.cfg
  rw [h]

theorem State.ringCfg_congr {s t : State} (h : t.settings = s.settings) (r : RingId) : t.ringCfg r = s.ringCfg r := by
  cases r <;> simp [State.ringCfg, h]

/-- R53: a completion at a node that is not station n's. -/
theorem Spared.completeNode {r : RingId} {n : Fin 64} {node : Fin 40} {s : State} (hnode : node ≠ (s.stCfg n).node)
    (hasks : s.unasked r) (f : Round) (marks : Vector Bool 40) : Spared r n s (s.completeNode r f marks node) := by
  unfold State.completeNode
  split
  · next m hm =>
    have hother : m ≠ n := fun h => hnode (h ▸ (State.occupant_spec hm).2.symm)
    exact Spared.completeStation hother hasks f _ _
  · exact .refl r n s

/-- R53: the station records of a completion, seen from the one station n of a node. -/
theorem AgreeAt.completeNodes {r : RingId} {n : Fin 64} {s : State} {f : Round} {marks : Vector Bool 40}
    {node : Fin 40} {slot : Option Slot} (hn : s.occupant r node = some n)
    (hslot : f.slotAt (s.ringCfg r).nodes node.val = slot) (hasks : s.unasked r)
    (hdriven : (s.st n).state.isDriven = true) (hfault : shownIn slot Slot.driveFault = false)
    (hmisses : nextMisses (s.st n).misses marks[node] f.sequence slot < (s.ringCfg r).lossLimit) :
    AgreeAt n s (allNodes.foldl (fun s x => s.completeNode r f marks x) s) := by
  have hnode : (s.stCfg n).node = node := (State.occupant_spec hn).2
  obtain ⟨u, hbefore, hafter⟩ := foldl_once
    (R := fun s t : State => (s.stCfg n).node = node → s.unasked r → Spared r n s t ∧ t.unasked r)
    (fun s _ h => ⟨.refl r n s, h⟩)
    (fun h g hnode hasks => by
      obtain ⟨hst, ht⟩ := h hnode hasks
      obtain ⟨htu, hu⟩ := g (hst.agreeAt.stCfg n ▸ hnode) ht
      exact ⟨hst.trans htu, hu⟩)
    (f := fun s x => s.completeNode r f marks x)
    (fun s x hx hnode hasks => by
      have h := Spared.completeNode (s := s) (hnode ▸ hx) hasks f marks
      exact ⟨h, h.unasked hasks⟩)
    (List.nodup_finRange 40) (List.mem_finRange node) s
  obtain ⟨hsu, hu⟩ := hbefore hnode hasks
  have hself : u.completeNode r f marks node = u.completeStation r f n marks[node] slot := by
    simp only [State.completeNode, State.occupant_congr hsu.settings, hn, State.ringCfg_congr hsu.settings, hslot]
  obtain ⟨hcomplete, hstill⟩ := AgreeAt.completeStation (s := u) (r := r) (n := n) (f := f) (marked := marks[node])
    (slot := slot) hu (hsu.state ▸ hdriven) hfault
    (by rw [hsu.misses, State.ringCfg_congr hsu.settings]; exact hmisses)
  rw [hself] at hafter
  have hcfg : ((u.completeStation r f n marks[node] slot).stCfg n).node = node := by
    rw [hcomplete.stCfg, hsu.agreeAt.stCfg, hnode]
  exact (hsu.agreeAt.trans hcomplete).trans (hafter hcfg hstill).1.agreeAt

end Sys2Proof.Machine
end
section
/-! PROOF. What the reckoning of the carriages makes of one driven station (R71 to R87): its slot, the exclusion
DEVIATION, and the state its exclusion decides. -/

namespace Sys2Proof.Machine

/-! ## The candidates of a rail (R80, R81) -/

/-- R80: a candidate is a station of the carriage whose slot is taken and that has no exclusion. -/
theorem State.mem_candidates {s : State} {h : HandOff} {c : Fin 6} {q : Fin 4} {x : Candidate}
    (hx : x ∈ s.candidates h c q) :
    s.home x.station = c ∧ (s.takenSlot h x.station).isSome = true ∧ (s.st x.station).reckoning.exclusion = none := by
  obtain ⟨n, hn, hcandidate⟩ := List.mem_filterMap.mp hx
  have hhome : s.home n = c := by
    simp only [State.stationsOf, State.isStationOf, List.mem_filter, Bool.and_eq_true, decide_eq_true_eq] at hn
    exact hn.1.2.2
  unfold State.candidate at hcandidate
  dsimp only at hcandidate
  split at hcandidate
  · split at hcandidate
    · next slot p hslot hp =>
      split at hcandidate
      · next hgood =>
        obtain rfl := Option.some.inj hcandidate
        simp only [Bool.and_eq_true, Option.isNone_iff_eq_none] at hgood
        exact ⟨hhome, by simp [hslot], hgood.2⟩
      · nomatch hcandidate
    · nomatch hcandidate
    · nomatch hcandidate
  · nomatch hcandidate

theorem farthest_mem {m : Int} : ∀ {cs : List Candidate} {x : Candidate}, farthest m cs = some x → x ∈ cs
  | y :: ys, x, h => by
    unfold farthest at h
    split at h
    · exact Option.some.inj h ▸ List.mem_cons_self
    · next z hz =>
      split at h
      · exact Option.some.inj h ▸ List.mem_cons_of_mem y (farthest_mem hz)
      · exact Option.some.inj h ▸ List.mem_cons_self

/-- R81: the station set aside is one of the candidates. -/
theorem formRail_deviant_mem {prev : Rail} {cs : List Candidate} {limit period : Nat} {n : Fin 64}
    (h : (formRail prev cs limit period).deviant = some n) : ∃ x ∈ cs, x.station = n := by
  unfold formRail at h
  split at h
  · nomatch h
  · dsimp only at h
    split at h
    · split at h
      · next x hx =>
        split at h
        · exact ⟨x, farthest_mem hx, Option.some.inj h⟩
        · nomatch h
      · nomatch h
    · nomatch h

/-! ## The forming of the rails, at one station (R81) -/

/-- The forming of rails changes of station n at most the exclusion: DEVIATION, and only where there was none, of a
station of the carriage whose slot is taken. -/
structure Railed (h : HandOff) (c : Fin 6) (n : Fin 64) (s t : State) : Prop where
  settings : t.settings = s.settings
  state : (t.st n).state = (s.st n).state
  identity : (t.st n).identity = (s.st n).identity
  reckoning : ∃ x, (t.st n).reckoning = { (s.st n).reckoning with exclusion := x } ∧
    (x = (s.st n).reckoning.exclusion ∨ (s.home n = c ∧ (s.takenSlot h n).isSome = true ∧
      (s.st n).reckoning.exclusion = none ∧ x = some .deviation))

namespace Railed

variable {h : HandOff} {c : Fin 6} {n : Fin 64} {s t u : State}

theorem of_st (hsettings : t.settings = s.settings) (hst : t.st n = s.st n) : Railed h c n s t :=
  ⟨hsettings, by rw [hst], by rw [hst], _, by rw [hst], Or.inl rfl⟩

theorem refl (s : State) : Railed h c n s s := of_st rfl rfl

theorem home (g : Railed h c n s t) : t.home n = s.home n := by simp [State.home, State.stCfg, g.settings]

theorem takenSlot (g : Railed h c n s t) : t.takenSlot h n = s.takenSlot h n := by
  simp [State.takenSlot, State.stCfg, g.settings, g.state]

theorem trans (g : Railed h c n s t) (k : Railed h c n t u) : Railed h c n s u := by
  obtain ⟨x, hx, hx'⟩ := g.reckoning
  obtain ⟨y, hy, hy'⟩ := k.reckoning
  refine ⟨k.settings.trans g.settings, k.state.trans g.state, k.identity.trans g.identity, y, by rw [hy, hx], ?_⟩
  rw [g.home, g.takenSlot, hx] at hy'
  dsimp only at hy'
  obtain rfl | ⟨hhome, hslot, rfl, rfl⟩ := hy'
  · exact hx'
  · obtain hnone | ⟨-, -, -, hsome⟩ := hx'
    · exact Or.inr ⟨hhome, hslot, hnone.symm, rfl⟩
    · nomatch hsome

theorem post_right (g : Railed h c n s t) (e : Event) : Railed h c n s (t.post e) := g.trans (of_st rfl rfl)

/-- R81: a candidate that is set aside gets the exclusion DEVIATION. -/
theorem setAside (deviant : Option (Fin 64)) :
    (∀ m, deviant = some m →
      s.home m = c ∧ (s.takenSlot h m).isSome = true ∧ (s.st m).reckoning.exclusion = none) →
    Railed h c n s (match deviant with
      | some m => s.modSt m fun st => { st with reckoning := { st.reckoning with exclusion := some .deviation } }
      | none => s) := by
  intro hdeviant
  split
  · next m =>
    obtain ⟨hhome, hslot, hnone⟩ := hdeviant m rfl
    by_cases hm : m = n
    · subst hm
      exact ⟨rfl, by simp, by simp, _, by rw [State.st_modSt_self], Or.inr ⟨hhome, hslot, hnone, rfl⟩⟩
    · exact of_st rfl (by simp [State.st_modSt, hm])
  · exact refl s

/-- R81 to R83: one rail of a carriage. -/
theorem reckonRail (s : State) (q : Fin 4) : Railed h c n s (s.reckonRail h c q).1 := by
  unfold State.reckonRail
  dsimp only
  generalize hform : formRail (s.car c).rails[q] (s.candidates h c q) (s.cfg c).deviationLimit h.settings.period = form
  have hdeviant : ∀ m, form.deviant = some m →
      s.home m = c ∧ (s.takenSlot h m).isSome = true ∧ (s.st m).reckoning.exclusion = none := fun m hm => by
    obtain ⟨x, hx, rfl⟩ := formRail_deviant_mem (hform ▸ hm)
    exact State.mem_candidates hx
  have hformed : Railed h c n s (s.modCar c fun k => { k with rails := k.rails.set q form.rail }) := of_st rfl rfl
  have hset := hformed.trans (setAside (s := s.modCar c _) form.deviant hdeviant)
  split
  · split
    · exact hset.post_right _
    · exact hset
  all_goals exact hset

/-- R80 to R83: all rails of a carriage. -/
theorem reckonRails (s : State) : Railed h c n s (s.reckonRails h c).1 :=
  foldl_rel (fun a b : State × List (Fin 4 × List Candidate) => Railed h c n a.1 b.1) (fun a => refl a.1) trans
    (fun a q => ((a.1.reckonRail h c q).1, a.2 ++ [(q, (a.1.reckonRail h c q).2)])) (fun a q => reckonRail a.1 q)
    (s.railsOf c) (s, [])

end Railed

end Sys2Proof.Machine
end
section
/-! PROOF. One driven station through the reckoning of its carriage, and through a completion in CLOSED (R53, R71 to
R87). -/

namespace Sys2Proof.Machine

/-! ## Seeding and the decision of the exclusion (R85, R79) -/

/-- R85: seeding leaves every other station, and a driven one itself. -/
theorem AgreeAt.seedStation {n : Fin 64} {s : State} (hdriven : (s.st n).state.isDriven = true) (h : HandOff)
    (c : Fin 6) (contributing : List Candidate) (m : Fin 64) : AgreeAt n s (s.seedStation h c contributing m) := by
  unfold State.seedStation
  dsimp only
  split
  · split
    · next hseeded =>
      have hother : m ≠ n := fun hm => by
        simp only [Bool.and_eq_true, decide_eq_true_eq] at hseeded
        rw [← hm, hseeded.1.1.1.1] at hdriven
        nomatch hdriven
      exact .modSt_other hother s _
    · exact .refl n s
  all_goals exact .refl n s

theorem AgreeAt.seedStation_other {m n : Fin 64} (hm : m ≠ n) (h : HandOff) (c : Fin 6)
    (contributing : List Candidate) (s : State) : AgreeAt n s (s.seedStation h c contributing m) := by
  unfold State.seedStation
  dsimp only
  split
  · split
    · exact .modSt_other hm s _
    · exact .refl n s
  all_goals exact .refl n s

/-- The state of a driven station with this exclusion (R79). -/
def excludedState : Option Exclusion → StationState
  | none => .driving
  | some x => .sidelined x

theorem State.st_posts (s : State) (ps : List Post) (n : Fin 64) : ({ s with posts := ps } : State).st n = s.st n := rfl

/-- A change of state to one that does not start the reckoning afresh, from one that asked for no request. -/
theorem State.enterStation_self {s : State} {n : Fin 64} {new : StationState} (hold : (s.st n).state.inService = false)
    (hnew : new.startsAfresh = false) (reason : StationReason) :
    ((s.enterStation n new reason).st n).state = new ∧
    ((s.enterStation n new reason).st n).reckoning = (s.st n).reckoning := by
  unfold State.enterStation State.changeStation
  dsimp only
  split
  · next h => exact ⟨h, rfl⟩
  · simp only [hold, hnew, Bool.false_eq_true, if_false]
    rw [State.st_posts, State.post_st, State.st_modSt_self]
    exact ⟨rfl, rfl⟩

/-- R79: the exclusion of a driven station decides its state. -/
theorem State.applyExclusion_self {s : State} {n : Fin 64} (hdriven : (s.st n).state.isDriven = true) :
    ((s.applyExclusion n).st n).state = excludedState (s.st n).reckoning.exclusion ∧
    ((s.applyExclusion n).st n).reckoning = (s.st n).reckoning := by
  unfold State.applyExclusion
  split
  · next x hs hx => exact hx ▸ State.enterStation_self (by rw [hs]; rfl) rfl _
  · next hs hx => exact hx ▸ State.enterStation_self (by rw [hs]; rfl) rfl _
  · next x hs hx => simp [hx, excludedState]
  · next hs hx => exact ⟨by rw [hs, hx]; rfl, rfl⟩
  all_goals next hs => rw [hs] at hdriven; nomatch hdriven

theorem State.applyExclusion_settings (s : State) (n : Fin 64) : (s.applyExclusion n).settings = s.settings := by
  unfold State.applyExclusion
  split
  · exact (StationWork.enterStation s n _ _).settings
  · exact (StationWork.enterStation s n _ _).settings
  all_goals rfl

theorem AgreeAt.applyExclusion_other {m n : Fin 64} (hm : m ≠ n) (s : State) : AgreeAt n s (s.applyExclusion m) := by
  unfold State.applyExclusion
  split
  · exact (Spared.enterStation (r := .a) hm s _ _).agreeAt
  · exact (Spared.enterStation (r := .a) hm s _ _).agreeAt
  · exact .modSt_other hm s _
  all_goals exact .refl n s

/-! ## One carriage at a hand-off, stage by stage -/

/-- R71: the slots of the carriage's stations have been taken. -/
def State.withSlots (s : State) (h : HandOff) (c : Fin 6) : State :=
  (s.stationsOf c).foldl (fun s n => s.reckonStation h n) s

/-- R80 to R84: and its rails formed, with P and S. -/
def State.withRails (s : State) (h : HandOff) (c : Fin 6) : State := ((s.withSlots h c).reckonRails h c).1.formPS c

/-- R85: and its stations seeded. -/
def State.withSeeds (s : State) (h : HandOff) (c : Fin 6) : State :=
  if ((s.withRails h c).car c).state = .parked then
    (s.stationsOf c).foldl
      (fun u n => u.seedStation h c (((s.withSlots h c).reckonRails h c).2.flatMap Prod.snd) n) (s.withRails h c)
  else s.withRails h c

/-- R79, R87: the reckoning of a carriage ends with its exclusions applied and its sample set delivered. -/
theorem State.reckon_eq (s : State) (h : HandOff) (c : Fin 6) :
    ∃ m, s.reckon h c = ((s.stationsOf c).foldl State.applyExclusion (s.withSeeds h c)).deliver c m := ⟨_, rfl⟩

theorem State.mem_stationsOf {s : State} {c : Fin 6} {n : Fin 64} :
    n ∈ s.stationsOf c ↔ (s.stCfg n).enabled = true ∧ s.home n = c := by
  simp [State.stationsOf, State.isStationOf, allStations, State.home]

theorem State.nodup_stationsOf (s : State) (c : Fin 6) : (s.stationsOf c).Nodup :=
  (List.nodup_finRange 64).filter _

/-- Work that leaves every other station, done for each station of a carriage, leaves a station of another one. -/
theorem AgreeAt.foldl_stationsOf {n : Fin 64} {s : State} {c : Fin 6} (hhome : s.home n ≠ c)
    {f : State → Fin 64 → State} (other : ∀ s m, m ≠ n → AgreeAt n s (f s m)) (u : State) :
    AgreeAt n u ((s.stationsOf c).foldl f u) :=
  foldl_rel_mem (R := AgreeAt n) (.refl n) .trans
    (fun v m hm => other v m fun h => hhome (h ▸ (State.mem_stationsOf.mp hm).2)) u

/-- The forming of the rails leaves a station that is not of the carriage, or whose slot is not taken. -/
theorem Railed.agreeAt_of_passed {h : HandOff} {c : Fin 6} {n : Fin 64} {s t : State} (g : Railed h c n s t)
    (hpassed : s.home n ≠ c ∨ s.takenSlot h n = none) : AgreeAt n s t := by
  refine ⟨g.settings, g.state, g.identity, ?_⟩
  obtain ⟨x, hx, rfl | ⟨hhome, hslot, -, -⟩⟩ := g.reckoning
  · exact hx
  · obtain hother | hnone := hpassed
    · exact absurd hhome hother
    · simp [hnone] at hslot

end Sys2Proof.Machine
end
section
/-! PROOF. The reckoning of the carriages at a completion in CLOSED, at one driven station (R53, R71 to R87). -/

namespace Sys2Proof.Machine

/-! ## A station of another carriage -/

theorem Railed.withRails {h : HandOff} {c : Fin 6} {n : Fin 64} (s : State) :
    Railed h c n (s.withSlots h c) (s.withRails h c) :=
  (Railed.reckonRails _).trans (.of_st rfl rfl)

/-- R71 to R87: the reckoning of a carriage leaves the stations of the others. -/
theorem AgreeAt.reckon_other {n : Fin 64} {s : State} {c : Fin 6} (hhome : s.home n ≠ c) (h : HandOff) :
    AgreeAt n s (s.reckon h c) := by
  have hslots : AgreeAt n s (s.withSlots h c) :=
    .foldl_stationsOf hhome (fun s m hm => .reckonStation_other hm h s) s
  have hrails : AgreeAt n (s.withSlots h c) (s.withRails h c) :=
    (Railed.withRails s).agreeAt_of_passed (Or.inl (hslots.home n ▸ hhome))
  have hseeds : AgreeAt n (s.withRails h c) (s.withSeeds h c) := by
    unfold State.withSeeds
    split
    · exact .foldl_stationsOf hhome (fun s m hm => .seedStation_other hm h c _ s) _
    · exact .refl n _
  have hexcluded : AgreeAt n (s.withSeeds h c) ((s.stationsOf c).foldl State.applyExclusion (s.withSeeds h c)) :=
    .foldl_stationsOf hhome (fun s m hm => .applyExclusion_other hm s) _
  obtain ⟨m, hm⟩ := s.reckon_eq h c
  rw [hm]
  exact (((hslots.trans hrails).trans hseeds).trans hexcluded).trans (.of_st rfl rfl)

/-! ## A driven station of the carriage -/

theorem State.passPlate_keeps (s : State) (n : Fin 64) (slot : Slot) (p : Plate) (elapsed : Nat) :
    (s.passPlate n slot p elapsed).settings = s.settings ∧
    ((s.passPlate n slot p elapsed).st n).state = (s.st n).state := by
  by_cases hpass : s.passesSlip n slot p elapsed
  · simp [State.passPlate_admitted hpass]
  · obtain ⟨x, hs⟩ := State.passPlate_slipped hpass
    simp [hs]

/-- R71: the taking of a slot leaves the settings and the station's state. -/
theorem State.reckonStation_keeps (s : State) (h : HandOff) (n : Fin 64) :
    (s.reckonStation h n).settings = s.settings ∧ ((s.reckonStation h n).st n).state = (s.st n).state := by
  have hsighted : ∀ slot, (s.sighted h n slot).settings = s.settings ∧
      ((s.sighted h n slot).st n).state = (s.st n).state := fun slot => by
    unfold State.sighted State.seePlate
    split
    · exact ⟨rfl, rfl⟩
    · split
      · exact ⟨rfl, rfl⟩
      · split
        · exact ⟨rfl, by simp⟩
        · exact s.passPlate_keeps n slot _ _
  unfold State.reckonStation
  split
  · next slot _ =>
    obtain ⟨hsettings, hstate⟩ := hsighted slot
    simp [State.takeSlot_eq, hsettings, hstate]
  · exact ⟨rfl, rfl⟩

/-- Station n has the reckoning fields k but for the exclusion, which DEVIATION may have joined where `fresh` says that
its slot was taken and which has decided its state (R79, R81). -/
def State.standsReckoned (t : State) (n : Fin 64) (k : Reckoning) (fresh : Prop) : Prop :=
  ∃ x, (t.st n).reckoning = { k with exclusion := x } ∧
    (x = k.exclusion ∨ (fresh ∧ k.exclusion = none ∧ x = some .deviation)) ∧ (t.st n).state = excludedState x

theorem State.standsReckoned.of_agreeAt {s t : State} {n : Fin 64} {k : Reckoning} {fresh : Prop}
    (hs : s.standsReckoned n k fresh) (h : AgreeAt n s t) : t.standsReckoned n k fresh := by
  obtain ⟨x, hreckoning, hx, hstate⟩ := hs
  exact ⟨x, h.reckoning.trans hreckoning, hx, h.state.trans hstate⟩

/-- R71: the slots of a carriage's stations, seen from one of them. -/
theorem AgreeAt.withSlots {s : State} {c : Fin 6} {n : Fin 64} (hn : n ∈ s.stationsOf c) (h : HandOff) :
    AgreeAt n (s.reckonStation h n) (s.withSlots h c) := by
  obtain ⟨u, hbefore, hafter⟩ := foldl_once (R := AgreeAt n) (.refl n) .trans
    (fun s m hm => .reckonStation_other hm h s) (s.nodup_stationsOf c) hn s
  exact (hbefore.reckonStation h).trans hafter

/-- R85: the seeding of a carriage's stations leaves a driven one. -/
theorem AgreeAt.withSeeds {s : State} {h : HandOff} {c : Fin 6} {n : Fin 64}
    (hdriven : ((s.withRails h c).st n).state.isDriven = true) :
    AgreeAt n (s.withRails h c) (s.withSeeds h c) := by
  unfold State.withSeeds
  split
  · exact foldl_rel (fun u v : State => (u.st n).state.isDriven = true → AgreeAt n u v) (fun u _ => .refl n u)
      (fun g k hu => (g hu).trans (k ((g hu).state ▸ hu))) _ (fun u m hu => .seedStation hu h c _ m) _ _ hdriven
  · exact .refl n _

/-- R79: the exclusions of a carriage's stations, seen from a driven one. -/
theorem State.applyExclusions_self {s : State} {ns : List (Fin 64)} {n : Fin 64} (nodup : ns.Nodup) (hn : n ∈ ns)
    (hdriven : (s.st n).state.isDriven = true) :
    (ns.foldl State.applyExclusion s).settings = s.settings ∧
    ((ns.foldl State.applyExclusion s).st n).state = excludedState (s.st n).reckoning.exclusion ∧
    ((ns.foldl State.applyExclusion s).st n).reckoning = (s.st n).reckoning := by
  obtain ⟨u, hbefore, hafter⟩ := foldl_once (R := AgreeAt n) (.refl n) .trans
    (fun s m hm => .applyExclusion_other hm s) nodup hn s
  obtain ⟨hstate, hreckoning⟩ := State.applyExclusion_self (hbefore.state ▸ hdriven)
  refine ⟨?_, ?_, ?_⟩
  · rw [hafter.settings, State.applyExclusion_settings, hbefore.settings]
  · rw [hafter.state, hstate, hbefore.reckoning]
  · rw [hafter.reckoning, hreckoning, hbefore.reckoning]

/-- R71 to R87: the reckoning of its carriage, at a driven station. -/
theorem State.reckon_self {s : State} {c : Fin 6} {n : Fin 64} (hn : n ∈ s.stationsOf c)
    (hdriven : (s.st n).state.isDriven = true) (h : HandOff) :
    (s.reckon h c).settings = s.settings ∧
    (s.reckon h c).standsReckoned n ((s.reckonStation h n).st n).reckoning ((s.takenSlot h n).isSome = true) := by
  obtain ⟨hsettings, hstate⟩ := s.reckonStation_keeps h n
  have hslots := AgreeAt.withSlots hn h
  have hrails : Railed h c n (s.withSlots h c) (s.withRails h c) := .withRails s
  have hmoves : ((s.withRails h c).st n).state.isDriven = true := by
    rw [hrails.state, hslots.state, hstate, hdriven]
  have hseeds := AgreeAt.withSeeds hmoves
  obtain ⟨hkept, hdecided, hfields⟩ :=
    State.applyExclusions_self (s.nodup_stationsOf c) hn (s := s.withSeeds h c) (hseeds.state ▸ hmoves)
  have htaken : (s.withSlots h c).takenSlot h n = s.takenSlot h n := by
    rw [hslots.takenSlot]
    simp only [State.takenSlot, State.stCfg, hsettings, hstate]
  obtain ⟨x, hx, hcause⟩ := hrails.reckoning
  rw [htaken, hslots.reckoning] at hcause
  rw [hslots.reckoning] at hx
  rw [hseeds.reckoning, hx] at hdecided hfields
  obtain ⟨m, hm⟩ := s.reckon_eq h c
  rw [hm]
  refine ⟨?_, x, hfields, hcause.imp_right And.right, hdecided⟩
  exact hkept.trans (hseeds.settings.trans (hrails.settings.trans (hslots.settings.trans hsettings)))

/-! ## All carriages of the ring (R53) -/

/-- R53, R71 to R87: the hand-off to every carriage of the ring, at a driven station of one of them. -/
theorem State.reckonAll {s : State} {cs : List (Fin 6)} {n : Fin 64} (nodup : cs.Nodup) (hhome : s.home n ∈ cs)
    (henabled : (s.stCfg n).enabled = true) (hdriven : (s.st n).state.isDriven = true) (h : HandOff) :
    (cs.foldl (fun s c => s.reckon h c) s).standsReckoned n ((s.reckonStation h n).st n).reckoning
      ((s.takenSlot h n).isSome = true) := by
  obtain ⟨u, hbefore, hafter⟩ := foldl_once (R := fun u v : State => u.home n = s.home n → AgreeAt n u v)
    (fun u _ => .refl n u) (fun g k hu => (g hu).trans (k (((g hu).home n).trans hu)))
    (f := fun s c => s.reckon h c) (fun u c hc hu => .reckon_other (fun heq => hc (heq.symm.trans hu)) h) nodup hhome s
  have hsu := hbefore rfl
  have hn : n ∈ u.stationsOf (s.home n) :=
    State.mem_stationsOf.mpr ⟨by rw [hsu.stCfg, henabled], hsu.home n⟩
  obtain ⟨hsettings, hreckoned⟩ := State.reckon_self hn (hsu.state ▸ hdriven) h
  rw [(hsu.reckonStation h).reckoning, hsu.takenSlot] at hreckoned
  refine hreckoned.of_agreeAt (hafter ?_)
  rw [State.home, State.stCfg, hsettings]
  exact hsu.home n

end Sys2Proof.Machine
end
section
/-! PROOF. A copy that completes a round in CLOSED, at one driven station (R46, R48, R53), and the settlement of
`StationsAreReckonedFromTheirSlots`. -/

namespace Sys2Proof.Machine

/-! ## The end of a completion (R54 to R60) -/

theorem AgreeAt.modRing (n : Fin 64) (s : State) (r : RingId) (f : Ring → Ring) : AgreeAt n s (s.modRing r f) :=
  .of_st (s.modRing_settings r f) (s.modRing_st r f n)

theorem AgreeAt.sendRingDown (n : Fin 64) (s : State) (r : RingId) : AgreeAt n s (s.sendRingDown r) := by
  refine foldl_rel (AgreeAt n) (.refl n) .trans _ (fun u c => ?_) _ s
  split
  · exact .of_st rfl rfl
  · exact .refl n u

/-- R54 to R60: the ring state change of a completion leaves the stations. -/
theorem AgreeAt.endCompletion (n : Fin 64) (s : State) (r : RingId) (f : Round) (signals : Signals) :
    AgreeAt n s (s.endCompletion r f signals) := by
  unfold State.endCompletion
  split
  · unfold State.endClosed
    split
    · exact (AgreeAt.modRing n s r _).post_right _
    · dsimp only
      split
      · exact (AgreeAt.modRing n s r _).post_right _
      · exact .modRing n s r _
  · unfold State.endOpen
    dsimp only
    generalize (if f.returned then 0 else (s.ring r).empty + 1) = empty
    split
    · exact (AgreeAt.modRing n s r _).post_right _
    · split
      · exact ((AgreeAt.modRing n s r _).post_right _).trans (.sendRingDown n _ r)
      · exact .modRing n s r _
  · unfold State.endDown
    dsimp only
    split
    · exact (AgreeAt.modRing n s r _).post_right _
    · exact .modRing n s r _
  · exact .refl n s

/-! ## A completed round (R53) -/

/-- R53: what the completed round f hands over for ring r. -/
def State.handOff (s : State) (r : RingId) (f : Round) : HandOff :=
  { settings := s.ringCfg r, sequence := f.sequence, slots := fun x => f.slotAt (s.ringCfg r).nodes x.val }

/-- R53, R71: the slot that is taken for a driven station is the one its round brings at its node. -/
theorem State.takenSlot_handOff {s : State} {r : RingId} {node : Fin 40} {n : Fin 64}
    (hn : s.occupant r node = some n) (hdriven : (s.st n).state.isDriven = true) (f : Round) :
    s.takenSlot (s.handOff r f) n = f.slotAt (s.ringCfg r).nodes node.val := by
  have htakes : (s.st n).state.takesSlot = true := by
    cases hs : (s.st n).state with
    | driving => rfl
    | sidelined x => rfl
    | _ => rw [hs] at hdriven; nomatch hdriven
  simp only [State.takenSlot, htakes, if_true, State.handOff, (State.occupant_spec hn).2]

/-- R53: a completion's station records are done, and the round is no longer in flight. -/
def State.recorded (s : State) (r : RingId) (f : Round) : State :=
  ((allNodes.foldl (fun u node => u.completeNode r f (s.ring r).filled node) s).modRing r fun g =>
    { g with filled := filledMarks f (s.ringCfg r).nodes }).landRound r f.request

/-- R53: a completion is its station records, the hand-off to the carriages of the ring, and the ring's own end. -/
theorem State.completeRound_eq {s : State} {r : RingId} {f : Round}
    (hsettings : (s.recorded r f).settings = s.settings) (signals : Signals) :
    s.completeRound r f signals =
      ((s.carriagesOf r).foldl (fun u c => u.reckon (s.handOff r f) c) (s.recorded r f)).endCompletion r f signals := by
  have hcarriages : (s.recorded r f).carriagesOf r = s.carriagesOf r := by
    unfold State.carriagesOf State.cfg
    rw [hsettings]
  have hgiven : s.handOff r f =
      { s.handOff r f with settings := (s.recorded r f).ringCfg r } := by
    rw [State.ringCfg_congr hsettings r, State.handOff]
  rw [hgiven, ← hcarriages]
  rfl

/-- R53: the completion of a round that carries no request, at a driven station that shows no drive fault and has not
missed too often: it is reckoned from its slot. -/
theorem State.completeRound_self {s : State} {r : RingId} {f : Round} {node : Fin 40} {n : Fin 64} {slot : Option Slot}
    (hn : s.occupant r node = some n) (hslot : f.slotAt (s.ringCfg r).nodes node.val = slot)
    (hrequest : f.request = none) (hasks : s.unasked r) (hdriven : (s.st n).state.isDriven = true)
    (hfault : shownIn slot Slot.driveFault = false)
    (hmisses : nextMisses (s.st n).misses (s.ring r).filled[node] f.sequence slot < (s.ringCfg r).lossLimit)
    (signals : Signals) :
    (s.completeRound r f signals).standsReckoned n ((s.reckonStation (s.handOff r f) n).st n).reckoning
      (slot.isSome = true) := by
  have hrecorded : AgreeAt n s (s.recorded r f) := by
    unfold State.recorded State.landRound
    rw [hrequest]
    exact ((AgreeAt.completeNodes hn hslot hasks hdriven hfault hmisses).trans (.modRing n _ r _)).trans
      (.modRing n _ r _)
  obtain ⟨hon, -⟩ := State.occupant_spec hn
  have hplace : (s.stCfg n).enabled = true ∧ s.home n ∈ s.carriagesOf r := by
    simp only [State.onRing, Bool.and_eq_true, decide_eq_true_eq] at hon
    refine ⟨hon.1, List.mem_filter.mpr ⟨?_, decide_eq_true hon.2⟩⟩
    exact (by decide : ∀ c, c ∈ allCarriages) _
  have hreckoned := State.reckonAll (n := n) (s := s.recorded r f) (cs := s.carriagesOf r)
    ((by decide : allCarriages.Nodup).filter _) (hrecorded.home n ▸ hplace.2) (hrecorded.stCfg n ▸ hplace.1)
    (hrecorded.state ▸ hdriven) (s.handOff r f)
  rw [(hrecorded.reckonStation _).reckoning, hrecorded.takenSlot, State.takenSlot_handOff hn hdriven, hslot]
    at hreckoned
  rw [State.completeRound_eq hrecorded.settings]
  exact hreckoned.of_agreeAt (.endCompletion n _ r f signals)

/-- COPY_ARRIVAL is an event of its ring (R46 to R48). -/
theorem exec_copyArrival (r : RingId) (port : Port) (inError : Bool) (bytes : List Byte) (signals : Signals)
    (s : State) : exec (.copyArrival r port inError bytes signals) s =
      event s fun s => s.arriveCopy r port inError bytes signals := rfl

/-- R46, R48: the awaited copy completes its round. -/
theorem State.arriveCopy_awaited {s : State} {r : RingId} {f : Round} {bytes : List Byte}
    (h : s.awaitsCopy r f bytes) (signals : Signals) :
    s.arriveCopy r .two false bytes signals =
      (s.modRing r fun g => { g with inFlight := some { f with copy2 := some bytes } }).completeRound r
        { f with copy2 := some bytes } signals := by
  obtain ⟨-, hflight, -, hmode, hcopy, hlength, hring, hsequence⟩ := h
  have hvalid : validCopy r (s.ringCfg r).nodes f false bytes = true := by
    cases r <;> simp_all [validCopy, telegramLength, ringCode]
  simp [State.arriveCopy, hflight, hvalid, Round.withCopy, hcopy, Round.complete, hmode]

end Sys2Proof.Machine
end
section
/-! PROOF. The settlement of `StationsAreReckonedFromTheirSlots` (R1, R67, R70 to R73, R75, R77 to R79). -/

namespace Sys2Proof.Machine

/-! ## The clauses of a taken slot -/

/-- R70: the last fields are the slot's, whatever its plate. -/
theorem State.takeSlot_lastFields (s : State) (h : HandOff) (n : Fin 64) (slot : Slot) :
    ((s.takeSlot h n slot).st n).reckoning.lastPlate = some slot.plate ∧
    ((s.takeSlot h n slot).st n).reckoning.lastCounts = slot.counts ∧
    ((s.takeSlot h n slot).st n).reckoning.lastSpeed = slot.speed ∧
    ((s.takeSlot h n slot).st n).reckoning.lastRound = h.sequence := by
  rw [State.takeSlot_reckoning]
  exact ⟨rfl, rfl, rfl, rfl⟩

/-- R77: seeing a plate leaves the cumulative counts. -/
theorem State.sighted_cumulative (s : State) (h : HandOff) (n : Fin 64) (slot : Slot) :
    ((s.sighted h n slot).st n).reckoning.cumulative = (s.st n).reckoning.cumulative := by
  unfold State.sighted State.seePlate
  split
  · rfl
  · split
    · rfl
    · split
      · simp
      · next p _ =>
        by_cases hpass : s.passesSlip n slot p
            (elapsedMs h.settings.period h.sequence (s.st n).reckoning.lastRound)
        · simp [State.passPlate_admitted hpass]
        · obtain ⟨x, hs⟩ := State.passPlate_slipped hpass
          simp [hs]

/-- R75: the cumulative counts advance by the increment, whatever the slot's plate. -/
theorem State.takeSlot_cumulative (s : State) (h : HandOff) (n : Fin 64) (slot : Slot) :
    ((s.takeSlot h n slot).st n).reckoning.cumulative =
      (s.st n).reckoning.cumulative + s.incrementFor h n slot := by
  rw [State.takeSlot_reckoning]
  exact congrArg (· + s.incrementFor h n slot) (s.sighted_cumulative h n slot)

/-- R72: the unclamped position from a seed, or from a plate that is valid for the station. -/
theorem State.unclamped_of_base {s : State} {n : Fin 64} {b : Int}
    (h : (s.st n).reckoning.base = some (.seed b) ∨
      ∃ p, (s.st n).reckoning.base = some (.plate p.id) ∧ s.plateFor n p.id = some p ∧ b = p.position)
    (slot : Slot) :
    s.unclamped n slot = some (stationPosition b slot (s.st n).scale (s.stCfg n).mount) := by
  unfold State.unclamped
  obtain hseed | ⟨p, hbase, hp, rfl⟩ := h
  · rw [State.baseValue_seed hseed, Option.map_some]
  · rw [State.baseValue_plate hbase hp, Option.map_some]

/-! ## The completion of a driven station's round in CLOSED -/

/-- R46, R53: an awaited copy of a round that carries no request, at a driven station that shows no drive fault and has
not missed too often: it is reckoned from the slot of its node. -/
theorem State.arriveCopy_self {s : State} {r : RingId} {f : Round} {bytes : List Byte} {node : Fin 40} {n : Fin 64}
    {slot : Option Slot} (hawaits : s.awaitsCopy r f bytes) (hrequest : f.request = none)
    (hn : s.occupant r node = some n) (hnode : node.val < (s.ringCfg r).nodes)
    (hslot : filledSlot bytes node.val = slot) (hdriven : (s.st n).state.isDriven = true)
    (hfault : shownIn slot Slot.driveFault = false)
    (hmisses : nextMisses (s.st n).misses (s.ring r).filled[node] f.sequence slot < (s.ringCfg r).lossLimit)
    (signals : Signals) :
    (s.arriveCopy r .two false bytes signals).standsReckoned n
      (slot.elim (s.st n).reckoning fun x =>
        ((s.takeSlot ⟨s.ringCfg r, f.sequence, fun _ => none⟩ n x).st n).reckoning)
      (slot.isSome = true) := by
  obtain ⟨-, -, -, hmode, -⟩ := id hawaits
  rw [State.arriveCopy_awaited hawaits]
  generalize hreturned : ({ f with copy2 := some bytes } : Round) = returned
  generalize hu : (s.modRing r fun g => { g with inFlight := some returned }) = u
  have hagree : AgreeAt n s u := hu ▸ .modRing n s r _
  have hring : u.ringCfg r = s.ringCfg r := State.ringCfg_congr hagree.settings r
  have hstation : u.st n = s.st n := hu ▸ s.modRing_st r _ n
  have hmarks : (u.ring r).filled = (s.ring r).filled := by rw [← hu, State.ring_modRing_self]
  have hnone : returned.request = none := by rw [← hreturned, ← hrequest]
  have hbrought : returned.slotAt (u.ringCfg r).nodes node.val = slot := by
    rw [hring, ← hreturned, ← hslot]
    simp [Round.slotAt, Nat.not_le.mpr hnode, hmode]
  have hoccupant : u.occupant r node = some n := (State.occupant_congr hagree.settings r node).trans hn
  have hasks : u.unasked r := by
    rw [← hu, State.unasked, State.ring_modRing_self]
    exact hnone
  have hreckoned := State.completeRound_self hoccupant hbrought hnone hasks (hagree.state ▸ hdriven) hfault
    (by rw [hstation, hmarks, hring, ← hreturned]; exact hmisses) signals
  have hslots : u.takenSlot (u.handOff r returned) n = slot :=
    (State.takenSlot_handOff hoccupant (hagree.state ▸ hdriven) returned).trans hbrought
  have hsequence : returned.sequence = f.sequence := by rw [← hreturned]
  have hfields : ((u.reckonStation (u.handOff r returned) n).st n).reckoning = slot.elim (s.st n).reckoning fun x =>
      ((s.takeSlot ⟨s.ringCfg r, f.sequence, fun _ => none⟩ n x).st n).reckoning := by
    unfold State.reckonStation
    rw [hslots]
    cases slot with
    | none => exact hagree.reckoning
    | some x =>
      rw [← hring, ← hsequence]
      exact (hagree.takeSlot _ x).reckoning
  rw [← hfields]
  exact hreckoned

end Sys2Proof.Machine

namespace Sys2Proof

open Machine

/-- Settles O37, from the branches of `State.takeSlot` and from `State.arriveCopy_self`. -/
theorem stationsAreReckonedFromTheirSlots : Obligations.StationsAreReckonedFromTheirSlots := by
  unfold Obligations.StationsAreReckonedFromTheirSlots
  refine ⟨rounded_nearest, ?plates, ?taking, ?completion⟩
  case plates =>
    intro s n id p table htable unique
    subst htable
    rw [State.plateFor, PlateTable.validFor_eq_some_iff, PlateTable.find_eq_some_iff unique, and_assoc]
  case taking =>
    intro s t h n slot k k' scale elapsed place within ht hk hk' hscale helapsed hplace hwithin
    subst ht hk hk' hscale helapsed
    have hposition : ∀ b, place b = stationPosition b slot (s.st n).scale (s.stCfg n).mount := hplace
    have hinside : ∀ b, within b ↔ inCoordinates (place b) = true := fun b => by
      simp only [inCoordinates, Bool.and_eq_true, decide_eq_true_eq]
      exact hwithin b
    have houtside : ∀ b, ¬ within b → inCoordinates (place b) = false := fun b hb => by
      simpa using mt (hinside b).mpr hb
    obtain ⟨hplate, hcounts, hspeed, hround⟩ := s.takeSlot_lastFields h n slot
    have hcumulative := s.takeSlot_cumulative h n slot
    refine ⟨hplate, hcounts, hspeed, hround, fun hfirst => ?_, fun hsame => ?_, fun hlast => ?_,
      fun last hlast hnew => ⟨?_, fun hlost => ?_, fun p passes hseen hp hpasses => ?_⟩⟩
    · rw [hcumulative, State.incrementFor, countIncrement_first _ _ hfirst, Int.add_zero]
    · rw [hcumulative, State.incrementFor, countIncrement_same _ _ hsame]
    · rw [State.takeSlot_unpassed h hlast]
      refine ⟨rfl, rfl, fun hnone => ?_, fun b hbase => ?_⟩
      · rw [State.unclamped, State.baseValue_none hnone]
        exact ⟨rfl, rfl⟩
      · rw [State.unclamped_of_base hbase, ← hposition]
        obtain ⟨hclamped, hin, hout⟩ :=
          (s.st n).reckoning.taking_placed (s.incrementFor h n slot) (place b) slot h.sequence
        exact ⟨hclamped, fun hb => hin ((hinside b).mp hb), fun hb => hout (houtside b hb)⟩
    · rw [hcumulative, State.incrementFor, countIncrement_passed _ _ hlast hnew]
      rfl
    · obtain ⟨hreckoning, hflag⟩ := State.takeSlot_lost h hlast hnew hlost
      rw [hreckoning]
      exact ⟨rfl, rfl, rfl, rfl, hflag⟩
    · have hcheck : passes ↔ s.passesSlip n slot p
          (elapsedMs h.settings.period h.sequence (s.st n).reckoning.lastRound) := by
        simp only [hpasses, hposition]
        exact Iff.rfl
      have hplaced := fun k => Reckoning.taking_placed k (s.incrementFor h n slot) (place p.position) slot h.sequence
      by_cases hpass : passes
      · rw [State.takeSlot_admitted h hlast hnew hseen hp (hcheck.mp hpass), ← hposition]
        obtain ⟨hclamped, hin, hout⟩ := hplaced _
        exact ⟨rfl, hclamped, fun _ => ⟨rfl, fun hb => hin ((hinside _).mp hb)⟩, fun hfails => absurd hpass hfails,
          fun hb => hout (houtside _ hb)⟩
      · obtain ⟨hreckoning, hflag⟩ := State.takeSlot_slipped h hlast hnew hseen hp (mt hcheck.mpr hpass)
        rw [hreckoning, ← hposition]
        obtain ⟨hclamped, hin, hout⟩ := hplaced _
        exact ⟨rfl, hclamped, fun hpasses => absurd hpasses hpass,
          fun _ => ⟨rfl, fun hb => hin ((hinside _).mp hb), hflag⟩, fun hb => hout (houtside _ hb)⟩
  case completion =>
    intro s r bytes signals f node n slot k hawaits hrequest hlimit hn hnode hslot hdriven hk
    refine ⟨_, (exec_copyArrival r .two false bytes signals s).trans (event_running s _ hawaits.1), ?_, ?_⟩
    · intro hfilled hfault hheard
      have hsome : filledSlot bytes node.val = some slot := by rw [filledSlot, ← hslot, if_neg hfilled]
      have hgood : goodSlot (s.ring r).filled[node] f.sequence (some slot) = true := by
        obtain hunmarked | hheard := hheard
        · simp [goodSlot, hunmarked]
        · simp [goodSlot, hheard]
      have hmisses : nextMisses (s.st n).misses (s.ring r).filled[node] f.sequence (some slot) <
          (s.ringCfg r).lossLimit := by
        rw [nextMisses, if_pos hgood]
        exact hlimit
      obtain ⟨x, hreckoning, hcause, hstate⟩ :=
        State.arriveCopy_self hawaits hrequest hn hnode hsome hdriven hfault hmisses signals
      rw [State.settle_st, hk]
      refine ⟨x, hreckoning, hcause.imp_right And.right, fun hnone => ?_, fun y hsome => ?_⟩
      · rw [hstate, hnone]
        rfl
      · rw [hstate, hsome]
        rfl
    · intro hempty hmisses
      have hnone : filledSlot bytes node.val = none := by rw [filledSlot, ← hslot, if_pos hempty]
      obtain ⟨x, hreckoning, hcause, -⟩ :=
        State.arriveCopy_self hawaits hrequest hn hnode hnone hdriven rfl hmisses signals
      obtain rfl | ⟨hfilled, -⟩ := hcause
      · rw [State.settle_st]
        exact hreckoning
      · nomatch hfilled

end Sys2Proof
end
